-- ==== Sys2Proof/Word.lean ====
section
/-! DEFINITION. The two widths of the machine (R6, R8): the 8-bit data word and the 16-bit address. -/

namespace Sys2Proof

/-- The data word: one register, one memory cell, one port transfer (R6, R65). -/
abbrev Byte := BitVec 8

/-- A 16-bit quantity: an address, a register pair, `SP` or `pc` (R6). -/
abbrev Word := BitVec 16

end Sys2Proof
end

