-- ==== Sys2Proof/Machine/Bits.lean ====
section
/-! DEFINITION. Bit fields and byte order: the primitives of R8 and R10 that are about bits alone. -/

namespace Sys2Proof.Machine

/-- `cat(h, l)`: the 16-bit value with high byte `h` and low byte `l` (R10). -/
def cat (h l : Byte) : Word := h ++ l

/-- `hi(v) = v[15:8]` (R10). -/
def hi (v : Word) : Byte := v.extractLsb' 8 8

/-- `lo(v) = v[7:0]` (R10). -/
def lo (v : Word) : Byte := v.extractLsb' 0 8

/-- The field D7:D6 of a first byte: the quadrant of R99. -/
def quadrant (op : Byte) : Nat := (op.extractLsb' 6 2).toNat

/-- The field D5:D3 of a first byte: `ddd`, `ooo`, `ccc` or `nnn` (R93, R95, R97). -/
def field53 (op : Byte) : Nat := (op.extractLsb' 3 3).toNat

/-- The field D5:D4 of a first byte: the pair code `rp` (R94). -/
def field54 (op : Byte) : Nat := (op.extractLsb' 4 2).toNat

/-- The field D2:D0 of a first byte: `sss` (R93), and the column within a quadrant (R99). -/
def field20 (op : Byte) : Nat := (op.extractLsb' 0 3).toNat

/-- `parity8(v)`: 1 when the number of 1 bits of `v` is even (R10, R35). -/
def parity8 (v : Byte) : Bool := ([0, 1, 2, 3, 4, 5, 6, 7].countP fun i => v.getLsbD i) % 2 == 0

end Sys2Proof.Machine
end

