-- ==== Sys2Proof/Config.lean ====
section
/-! DEFINITION. What an implementation or a platform fixes (the parameters of R7) and the free values.
The parameters are plain data: `Machine.State` carries one `Params`, no step changes it, and a statement about every
state is a statement about every choice of the parameters.  A free value is an `opaque` constant: nothing can be
proved of it beyond its type. -/

namespace Sys2Proof

/-- What stands at an address (parameter `MEMMAP`, R70). -/
inductive MemKind
  | ram
  | rom
  | absent
deriving DecidableEq, Repr

/-- One stretch of the memory map: the addresses `lo` to `hi`, both included, are of kind `kind` (R70). -/
structure Region where
  lo : Nat
  hi : Nat
  kind : MemKind
deriving DecidableEq, Repr

/-- Parameter `AC_LOGIC` (R167, D4): flag ac after ANA, ANI, XRA, XRI. -/
inductive AcLogic
  /-- any value: a fresh free bit (the spec's default) -/
  | draw
  /-- ac keeps its value -/
  | unchanged
  /-- `(a | b)[3]` after AND, 0 after exclusive OR -/
  | i8080
deriving DecidableEq, Repr

/-- Parameter `CMP_FLAGS` (R169, D5): whether CMP and CPI write s, p and ac. -/
inductive CmpFlags
  /-- all five flags, as SUB (the spec's default) -/
  | all
  /-- only z and c are fixed; s, p, ac take free bits -/
  | zcOnly
deriving DecidableEq, Repr

/-- Parameter `SUB_AC` (R38, D6): flag ac after a subtraction. -/
inductive SubAc
  /-- the carry out of D3 of `a + ~b + 1 - bin` (the spec's default) -/
  | carryOut
  /-- the uninterpreted function `Config.subAc` -/
  | uninterpreted
deriving DecidableEq, Repr

/-- Parameter `DAA_FN` (R156, D7): the decimal-adjust function. -/
inductive DaaFn
  /-- the function written out in R156 (the spec's default) -/
  | adjust
  /-- the uninterpreted function `Config.daaFn` -/
  | uninterpreted
deriving DecidableEq, Repr

/-- What one of the twelve first bytes without an instruction does (parameter `UNDOC_OPCODES`, R7, R104, D3).  The spec
fixes `fault` alone; the other effects are those that G6 reports, and stand here only as what a platform may supply
(log entry 17). -/
inductive UndocEffect
  /-- the model fault `ReservedOpcode(op)` (the spec's default) -/
  | fault
  /-- as NOP -/
  | nop
  /-- as JMP, with the two bytes behind it as ADR -/
  | jump
  /-- as CALL, with the two bytes behind it as ADR -/
  | call
  /-- as RET -/
  | ret
deriving DecidableEq, Repr

/-- The five one-bit flags (R30). -/
structure Machine.Flags where
  z : Bool
  s : Bool
  p : Bool
  ac : Bool
  c : Bool
deriving DecidableEq, Repr

/-- Parameter `RESET_VALUES` (R7, R48, D13), where it is supplied: the values of A, B, C, D, E, H, L, SP and the flags
after a reset event. -/
structure ResetValues where
  a : Byte
  b : Byte
  c : Byte
  d : Byte
  e : Byte
  h : Byte
  l : Byte
  sp : Word
  f : Machine.Flags
deriving DecidableEq, Repr

/-- The nine parameters of R7, which a platform or a part settles. -/
structure Params where
  /-- `MEMMAP` (R70): the first region that holds an address gives its kind; an address in no region is absent. -/
  memmap : List Region
  /-- `UNDOC_OPCODES` (R104, D3): the first entry for a byte says what it does; a byte without an entry faults. -/
  undocOpcodes : List (Byte × UndocEffect)
  /-- `AC_LOGIC` (R167) -/
  acLogic : AcLogic
  /-- `CMP_FLAGS` (R169) -/
  cmpFlags : CmpFlags
  /-- `SUB_AC` (R38) -/
  subAc : SubAc
  /-- `DAA_FN` (R156) -/
  daaFn : DaaFn
  /-- `RST_SW_CLEARS_INTE` (R229, D9): an RST fetched from memory clears `inte`. -/
  rstSwClearsInte : Bool
  /-- `EI_DELAY` (R242, R254, D10): `false` is 0, `true` is 1. -/
  eiDelay : Bool
  /-- `RESET_VALUES` (R48, R281, D13): `none` is the spec's `none`. -/
  resetValues : Option ResetValues
deriving DecidableEq, Repr

/-- What the environment presents at one recognition point (R43, R254, R255, R280): the reset signal Сб, and the
interrupt request together with the instruction byte the interrupting hardware would supply. -/
structure Signals where
  resetLine : Bool
  intr : Option Byte
deriving DecidableEq, Repr

/-- Nothing asserted. -/
def Signals.quiet : Signals := ⟨false, none⟩

/-- What the environment sees or supplies, in order (R72, R73, R255). -/
inductive Event
  /-- `in(port, value)` -/
  | input (port value : Byte)
  /-- `out(port, value)` -/
  | output (port value : Byte)
  /-- `int(N)`: interrupt entry with `RST N` supplied -/
  | interrupt (n : BitVec 3)
deriving DecidableEq, Repr

/-- `draw(1)` of R10: the free bit number `n` (`AC_LOGIC = draw`, `CMP_FLAGS = zc_only`, flags after a reset in a run). -/
opaque Config.drawBit : Nat → Bool

/-- `draw(8)`: the free byte number `n` (8-bit registers after a reset in a run, R281). -/
opaque Config.drawByte : Nat → Byte

/-- `draw(16)`: the free 16-bit value number `n` (`SP` after a reset in a run, R281). -/
opaque Config.drawWord : Nat → Word

/-- The byte an input device presents when the schedule of inputs in the state names none (R72). -/
opaque Config.inputByte : (port : Byte) → Nat → Byte

/-- `SUB_AC` left uninterpreted, as R38 and D6 allow: minuend, subtrahend, incoming borrow. -/
opaque Config.subAc : Byte → Byte → Bool → Bool

/-- `DAA_FN` left uninterpreted, as R156 and D7 allow: A, ac, c to the result, c and ac. -/
opaque Config.daaFn : Byte → Bool → Bool → Byte × Bool × Bool

end Sys2Proof
end

