-- ==== Sys2Proof/Machine/Defaults.lean ====
section
/-! DEFINITION. The parameters of R7 at the spec's defaults. -/

namespace Sys2Proof.Machine

/-- The whole address space as one region of RAM.  DESIGN CHOICE (log entry 5): the spec gives `MEMMAP` no default
(R70, D14). -/
def allRam : List Region := [⟨0, 0xFFFF, .ram⟩]

/-- The defaults of R7: `UNDOC_OPCODES = fault` for each of the twelve bytes, `AC_LOGIC = draw`, `CMP_FLAGS = all`, `SUB_AC`
and `DAA_FN` as R38 and R156 write them, `RST_SW_CLEARS_INTE = true`, `EI_DELAY = 0`, `RESET_VALUES = none` (log entries 3
and 11 to 17); `MEMMAP` is RAM everywhere. -/
def defaultParams : Params where
  memmap := allRam
  undocOpcodes := []
  acLogic := .draw
  cmpFlags := .all
  subAc := .carryOut
  daaFn := .adjust
  rstSwClearsInte := true
  eiDelay := false
  resetValues := none

end Sys2Proof.Machine
end

