-- ==== Sys2Proof/Syntax.lean ====
section
/-! DEFINITION. The syntax of the instruction set: one constructor per row of the opcode table, that is one per value of the
first byte (R91, R100).  Таблица 12 names the registers in the first byte, so a row has its registers in its name and its
immediates (D8, D16, ADR, the port number N: R96, R109) as arguments.  The twelve first bytes that the table marks with a
dash (R104) have a constructor each, `reserved08` to `reservedFD`.  The constructors stand in the order of the three formats. -/

namespace Sys2Proof

/-- The seven 8-bit registers (R6, R21, R22). -/
inductive Reg
  | b | c | d | e | h | l | a
deriving DecidableEq, Repr

/-- An 8-bit operand (R23): a register, or M, the memory byte at address HL (code 6). -/
inductive Operand8
  | reg (r : Reg)
  | m
deriving DecidableEq, Repr

/-- The pairs of LXI, INX, DCX, DAD (R24, R103): BC, DE, HL and `SP`. -/
inductive Pair
  | b | d | h | sp
deriving DecidableEq, Repr

/-- The pairs of PUSH and POP (R24, R103): BC, DE, HL and PSW. -/
inductive StackPair
  | b | d | h | psw
deriving DecidableEq, Repr

/-- The pairs of LDAX and STAX (R103): BC and DE only. -/
inductive IndirectPair
  | b | d
deriving DecidableEq, Repr

/-- The eight conditions of R204, in the order of their codes. -/
inductive Cond
  | nz | z | nc | c | po | pe | p | m
deriving DecidableEq, Repr

/-- The eight operations of quadrant 10 and of the immediate column (R99), in the order of their codes. -/
inductive AluOp
  | add | adc | sub | sbb | ana | xra | ora | cmp
deriving DecidableEq, Repr

/-- The instruction set (R100): one constructor for each of the 256 first bytes. -/
inductive Instr
  -- Format 3 (R90): three bytes, B2 the low and B3 the high byte of D16 or ADR
  /-- 01h LXI B,D16 (R129) -/
  | lxiB (d16 : Word)
  /-- 11h LXI D,D16 (R129) -/
  | lxiD (d16 : Word)
  /-- 21h LXI H,D16 (R129) -/
  | lxiH (d16 : Word)
  /-- 22h SHLD ADR (R135) -/
  | shld (adr : Word)
  /-- 2Ah LHLD ADR (R134) -/
  | lhld (adr : Word)
  /-- 31h LXI SP,D16 (R129) -/
  | lxiSp (d16 : Word)
  /-- 32h STA ADR (R126) -/
  | sta (adr : Word)
  /-- 3Ah LDA ADR (R125) -/
  | lda (adr : Word)
  /-- C2h JNZ ADR (R205) -/
  | jnz (adr : Word)
  /-- C3h JMP ADR (R201) -/
  | jmp (adr : Word)
  /-- C4h CNZ ADR (R213) -/
  | cnz (adr : Word)
  /-- CAh JZ ADR (R206) -/
  | jz (adr : Word)
  /-- CCh CZ ADR (R214) -/
  | cz (adr : Word)
  /-- CDh CALL ADR (R202) -/
  | call (adr : Word)
  /-- D2h JNC ADR (R207) -/
  | jnc (adr : Word)
  /-- D4h CNC ADR (R215) -/
  | cnc (adr : Word)
  /-- DAh JC ADR (R208) -/
  | jc (adr : Word)
  /-- DCh CC ADR (R216) -/
  | cc (adr : Word)
  /-- E2h JPO ADR (R209) -/
  | jpo (adr : Word)
  /-- E4h CPO ADR (R217) -/
  | cpo (adr : Word)
  /-- EAh JPE ADR (R210) -/
  | jpe (adr : Word)
  /-- ECh CPE ADR (R218) -/
  | cpe (adr : Word)
  /-- F2h JP ADR (R211) -/
  | jp (adr : Word)
  /-- F4h CP ADR (R219) -/
  | cp (adr : Word)
  /-- FAh JM ADR (R212) -/
  | jm (adr : Word)
  /-- FCh CM ADR (R220) -/
  | cm (adr : Word)
  -- Format 2 (R90): two bytes, B2 the operand D8 or the port number N
  /-- 06h MVI B,D8 (R123) -/
  | mviB (d8 : Byte)
  /-- 0Eh MVI C,D8 (R123) -/
  | mviC (d8 : Byte)
  /-- 16h MVI D,D8 (R123) -/
  | mviD (d8 : Byte)
  /-- 1Eh MVI E,D8 (R123) -/
  | mviE (d8 : Byte)
  /-- 26h MVI H,D8 (R123) -/
  | mviH (d8 : Byte)
  /-- 2Eh MVI L,D8 (R123) -/
  | mviL (d8 : Byte)
  /-- 36h MVI M,D8 (R124) -/
  | mviM (d8 : Byte)
  /-- 3Eh MVI A,D8 (R123) -/
  | mviA (d8 : Byte)
  /-- C6h ADI D8 (R152) -/
  | adi (d8 : Byte)
  /-- CEh ACI D8 (R153) -/
  | aci (d8 : Byte)
  /-- D3h OUT N (R241) -/
  | outPort (port : Byte)
  /-- D6h SUI D8 (R159) -/
  | sui (d8 : Byte)
  /-- DBh IN N (R240) -/
  | inPort (port : Byte)
  /-- DEh SBI D8 (R160) -/
  | sbi (d8 : Byte)
  /-- E6h ANI D8 (R162) -/
  | ani (d8 : Byte)
  /-- EEh XRI D8 (R166) -/
  | xri (d8 : Byte)
  /-- F6h ORI D8 (R164) -/
  | ori (d8 : Byte)
  /-- FEh CPI D8 (R171) -/
  | cpi (d8 : Byte)
  -- Format 1 (R90): one byte
  /-- 00h NOP (R244) -/
  | nop
  /-- 02h STAX B (R128) -/
  | staxB
  /-- 03h INX B (R173) -/
  | inxB
  /-- 04h INR B (R172) -/
  | inrB
  /-- 05h DCR B (R174) -/
  | dcrB
  /-- 07h RLC (R190) -/
  | rlc
  /-- 09h DAD B (R154) -/
  | dadB
  /-- 0Ah LDAX B (R127) -/
  | ldaxB
  /-- 0Bh DCX B (R175) -/
  | dcxB
  /-- 0Ch INR C (R172) -/
  | inrC
  /-- 0Dh DCR C (R174) -/
  | dcrC
  /-- 0Fh RRC (R191) -/
  | rrc
  /-- 12h STAX D (R128) -/
  | staxD
  /-- 13h INX D (R173) -/
  | inxD
  /-- 14h INR D (R172) -/
  | inrD
  /-- 15h DCR D (R174) -/
  | dcrD
  /-- 17h RAL (R192) -/
  | ral
  /-- 19h DAD D (R154) -/
  | dadD
  /-- 1Ah LDAX D (R127) -/
  | ldaxD
  /-- 1Bh DCX D (R175) -/
  | dcxD
  /-- 1Ch INR E (R172) -/
  | inrE
  /-- 1Dh DCR E (R174) -/
  | dcrE
  /-- 1Fh RAR (R193) -/
  | rar
  /-- 23h INX H (R173) -/
  | inxH
  /-- 24h INR H (R172) -/
  | inrH
  /-- 25h DCR H (R174) -/
  | dcrH
  /-- 27h DAA (R155) -/
  | daa
  /-- 29h DAD H (R154) -/
  | dadH
  /-- 2Bh DCX H (R175) -/
  | dcxH
  /-- 2Ch INR L (R172) -/
  | inrL
  /-- 2Dh DCR L (R174) -/
  | dcrL
  /-- 2Fh CMA (R194) -/
  | cma
  /-- 33h INX SP (R173) -/
  | inxSp
  /-- 34h INR M (R172) -/
  | inrM
  /-- 35h DCR M (R174) -/
  | dcrM
  /-- 37h STC (R195) -/
  | stc
  /-- 39h DAD SP (R154) -/
  | dadSp
  /-- 3Bh DCX SP (R175) -/
  | dcxSp
  /-- 3Ch INR A (R172) -/
  | inrA
  /-- 3Dh DCR A (R174) -/
  | dcrA
  /-- 3Fh CMC (R196) -/
  | cmc
  /-- 40h MOV B,B (R120) -/
  | movBB
  /-- 41h MOV B,C (R120) -/
  | movBC
  /-- 42h MOV B,D (R120) -/
  | movBD
  /-- 43h MOV B,E (R120) -/
  | movBE
  /-- 44h MOV B,H (R120) -/
  | movBH
  /-- 45h MOV B,L (R120) -/
  | movBL
  /-- 46h MOV B,M (R121) -/
  | movBM
  /-- 47h MOV B,A (R120) -/
  | movBA
  /-- 48h MOV C,B (R120) -/
  | movCB
  /-- 49h MOV C,C (R120) -/
  | movCC
  /-- 4Ah MOV C,D (R120) -/
  | movCD
  /-- 4Bh MOV C,E (R120) -/
  | movCE
  /-- 4Ch MOV C,H (R120) -/
  | movCH
  /-- 4Dh MOV C,L (R120) -/
  | movCL
  /-- 4Eh MOV C,M (R121) -/
  | movCM
  /-- 4Fh MOV C,A (R120) -/
  | movCA
  /-- 50h MOV D,B (R120) -/
  | movDB
  /-- 51h MOV D,C (R120) -/
  | movDC
  /-- 52h MOV D,D (R120) -/
  | movDD
  /-- 53h MOV D,E (R120) -/
  | movDE
  /-- 54h MOV D,H (R120) -/
  | movDH
  /-- 55h MOV D,L (R120) -/
  | movDL
  /-- 56h MOV D,M (R121) -/
  | movDM
  /-- 57h MOV D,A (R120) -/
  | movDA
  /-- 58h MOV E,B (R120) -/
  | movEB
  /-- 59h MOV E,C (R120) -/
  | movEC
  /-- 5Ah MOV E,D (R120) -/
  | movED
  /-- 5Bh MOV E,E (R120) -/
  | movEE
  /-- 5Ch MOV E,H (R120) -/
  | movEH
  /-- 5Dh MOV E,L (R120) -/
  | movEL
  /-- 5Eh MOV E,M (R121) -/
  | movEM
  /-- 5Fh MOV E,A (R120) -/
  | movEA
  /-- 60h MOV H,B (R120) -/
  | movHB
  /-- 61h MOV H,C (R120) -/
  | movHC
  /-- 62h MOV H,D (R120) -/
  | movHD
  /-- 63h MOV H,E (R120) -/
  | movHE
  /-- 64h MOV H,H (R120) -/
  | movHH
  /-- 65h MOV H,L (R120) -/
  | movHL
  /-- 66h MOV H,M (R121) -/
  | movHM
  /-- 67h MOV H,A (R120) -/
  | movHA
  /-- 68h MOV L,B (R120) -/
  | movLB
  /-- 69h MOV L,C (R120) -/
  | movLC
  /-- 6Ah MOV L,D (R120) -/
  | movLD
  /-- 6Bh MOV L,E (R120) -/
  | movLE
  /-- 6Ch MOV L,H (R120) -/
  | movLH
  /-- 6Dh MOV L,L (R120) -/
  | movLL
  /-- 6Eh MOV L,M (R121) -/
  | movLM
  /-- 6Fh MOV L,A (R120) -/
  | movLA
  /-- 70h MOV M,B (R122) -/
  | movMB
  /-- 71h MOV M,C (R122) -/
  | movMC
  /-- 72h MOV M,D (R122) -/
  | movMD
  /-- 73h MOV M,E (R122) -/
  | movME
  /-- 74h MOV M,H (R122) -/
  | movMH
  /-- 75h MOV M,L (R122) -/
  | movML
  /-- 76h HLT (R245) -/
  | hlt
  /-- 77h MOV M,A (R122) -/
  | movMA
  /-- 78h MOV A,B (R120) -/
  | movAB
  /-- 79h MOV A,C (R120) -/
  | movAC
  /-- 7Ah MOV A,D (R120) -/
  | movAD
  /-- 7Bh MOV A,E (R120) -/
  | movAE
  /-- 7Ch MOV A,H (R120) -/
  | movAH
  /-- 7Dh MOV A,L (R120) -/
  | movAL
  /-- 7Eh MOV A,M (R121) -/
  | movAM
  /-- 7Fh MOV A,A (R120) -/
  | movAA
  /-- 80h ADD B (R150) -/
  | addB
  /-- 81h ADD C (R150) -/
  | addC
  /-- 82h ADD D (R150) -/
  | addD
  /-- 83h ADD E (R150) -/
  | addE
  /-- 84h ADD H (R150) -/
  | addH
  /-- 85h ADD L (R150) -/
  | addL
  /-- 86h ADD M (R150) -/
  | addM
  /-- 87h ADD A (R150) -/
  | addA
  /-- 88h ADC B (R151) -/
  | adcB
  /-- 89h ADC C (R151) -/
  | adcC
  /-- 8Ah ADC D (R151) -/
  | adcD
  /-- 8Bh ADC E (R151) -/
  | adcE
  /-- 8Ch ADC H (R151) -/
  | adcH
  /-- 8Dh ADC L (R151) -/
  | adcL
  /-- 8Eh ADC M (R151) -/
  | adcM
  /-- 8Fh ADC A (R151) -/
  | adcA
  /-- 90h SUB B (R157) -/
  | subB
  /-- 91h SUB C (R157) -/
  | subC
  /-- 92h SUB D (R157) -/
  | subD
  /-- 93h SUB E (R157) -/
  | subE
  /-- 94h SUB H (R157) -/
  | subH
  /-- 95h SUB L (R157) -/
  | subL
  /-- 96h SUB M (R157) -/
  | subM
  /-- 97h SUB A (R157) -/
  | subA
  /-- 98h SBB B (R158) -/
  | sbbB
  /-- 99h SBB C (R158) -/
  | sbbC
  /-- 9Ah SBB D (R158) -/
  | sbbD
  /-- 9Bh SBB E (R158) -/
  | sbbE
  /-- 9Ch SBB H (R158) -/
  | sbbH
  /-- 9Dh SBB L (R158) -/
  | sbbL
  /-- 9Eh SBB M (R158) -/
  | sbbM
  /-- 9Fh SBB A (R158) -/
  | sbbA
  /-- A0h ANA B (R161) -/
  | anaB
  /-- A1h ANA C (R161) -/
  | anaC
  /-- A2h ANA D (R161) -/
  | anaD
  /-- A3h ANA E (R161) -/
  | anaE
  /-- A4h ANA H (R161) -/
  | anaH
  /-- A5h ANA L (R161) -/
  | anaL
  /-- A6h ANA M (R161) -/
  | anaM
  /-- A7h ANA A (R161) -/
  | anaA
  /-- A8h XRA B (R165) -/
  | xraB
  /-- A9h XRA C (R165) -/
  | xraC
  /-- AAh XRA D (R165) -/
  | xraD
  /-- ABh XRA E (R165) -/
  | xraE
  /-- ACh XRA H (R165) -/
  | xraH
  /-- ADh XRA L (R165) -/
  | xraL
  /-- AEh XRA M (R165) -/
  | xraM
  /-- AFh XRA A (R165) -/
  | xraA
  /-- B0h ORA B (R163) -/
  | oraB
  /-- B1h ORA C (R163) -/
  | oraC
  /-- B2h ORA D (R163) -/
  | oraD
  /-- B3h ORA E (R163) -/
  | oraE
  /-- B4h ORA H (R163) -/
  | oraH
  /-- B5h ORA L (R163) -/
  | oraL
  /-- B6h ORA M (R163) -/
  | oraM
  /-- B7h ORA A (R163) -/
  | oraA
  /-- B8h CMP B (R169) -/
  | cmpB
  /-- B9h CMP C (R169) -/
  | cmpC
  /-- BAh CMP D (R169) -/
  | cmpD
  /-- BBh CMP E (R169) -/
  | cmpE
  /-- BCh CMP H (R169) -/
  | cmpH
  /-- BDh CMP L (R169) -/
  | cmpL
  /-- BEh CMP M (R169) -/
  | cmpM
  /-- BFh CMP A (R169) -/
  | cmpA
  /-- C0h RNZ (R221) -/
  | rnz
  /-- C1h POP B (R132) -/
  | popB
  /-- C5h PUSH B (R130) -/
  | pushB
  /-- C7h RST 0 (R229) -/
  | rst0
  /-- C8h RZ (R222) -/
  | rz
  /-- C9h RET (R203) -/
  | ret
  /-- CFh RST 1 (R229) -/
  | rst1
  /-- D0h RNC (R223) -/
  | rnc
  /-- D1h POP D (R132) -/
  | popD
  /-- D5h PUSH D (R130) -/
  | pushD
  /-- D7h RST 2 (R229) -/
  | rst2
  /-- D8h RC (R224) -/
  | rc
  /-- DFh RST 3 (R229) -/
  | rst3
  /-- E0h RPO (R225) -/
  | rpo
  /-- E1h POP H (R132) -/
  | popH
  /-- E3h XTHL (R139) -/
  | xthl
  /-- E5h PUSH H (R130) -/
  | pushH
  /-- E7h RST 4 (R229) -/
  | rst4
  /-- E8h RPE (R226) -/
  | rpe
  /-- E9h PCHL (R137) -/
  | pchl
  /-- EBh XCHG (R138) -/
  | xchg
  /-- EFh RST 5 (R229) -/
  | rst5
  /-- F0h RP (R227) -/
  | rp
  /-- F1h POP PSW (R133) -/
  | popPsw
  /-- F3h DI (R243) -/
  | di
  /-- F5h PUSH PSW (R131) -/
  | pushPsw
  /-- F7h RST 6 (R229) -/
  | rst6
  /-- F8h RM (R228) -/
  | rm
  /-- F9h SPHL (R136) -/
  | sphl
  /-- FBh EI (R242) -/
  | ei
  /-- FFh RST 7 (R229) -/
  | rst7
  -- The twelve first bytes with no instruction (R104)
  /-- 08h no instruction (a dash in Таблица 12) (R104) -/
  | reserved08
  /-- 10h no instruction (a dash in Таблица 12) (R104) -/
  | reserved10
  /-- 18h no instruction (a dash in Таблица 12) (R104) -/
  | reserved18
  /-- 20h no instruction (a dash in Таблица 12) (R104) -/
  | reserved20
  /-- 28h no instruction (a dash in Таблица 12) (R104) -/
  | reserved28
  /-- 30h no instruction (a dash in Таблица 12) (R104) -/
  | reserved30
  /-- 38h no instruction (a dash in Таблица 12) (R104) -/
  | reserved38
  /-- CBh no instruction (a dash in Таблица 12) (R104) -/
  | reservedCB
  /-- D9h no instruction (a dash in Таблица 12) (R104) -/
  | reservedD9
  /-- DDh no instruction (a dash in Таблица 12) (R104) -/
  | reservedDD
  /-- EDh no instruction (a dash in Таблица 12) (R104) -/
  | reservedED
  /-- FDh no instruction (a dash in Таблица 12) (R104) -/
  | reservedFD
deriving DecidableEq, Repr

end Sys2Proof
end

