-- ==== Sys2Proof/Machine/State.lean ====
section
/-! DEFINITION. The state of the machine as plain data (R20), the reasons a step can stop, and the state after reset. -/

namespace Sys2Proof.Machine

/-- Memory as a list of (address, byte) in one canonical form: addresses strictly rising and below 2^16 (`Memory.wf`).
An address that is not listed reads as no value (log entry 4). -/
abbrev Memory := List Host.Cell

/-- The complete state (R20, R41), and after it the parameters of R7, the environment's inputs and outputs (R43, R72,
R73) and the model's own bookkeeping. -/
structure State where
  /-- the accumulator (R21) -/
  a : Byte
  /-- general registers (R22) -/
  b : Byte
  c : Byte
  d : Byte
  e : Byte
  h : Byte
  l : Byte
  /-- the stack pointer: the address of the last occupied stack cell (R28) -/
  sp : Word
  /-- the program counter (R26, R27) -/
  pc : Word
  /-- the flag register (R30) -/
  f : Flags
  /-- the interrupt-enable flip-flop (R40) -/
  inte : Bool
  /-- the state ОСТАНОВ (R41) -/
  halted : Bool
  /-- the one memory space (R44) -/
  mem : Memory
  /-- the parameters of R7; no step changes them -/
  params : Params
  /-- what the environment presents at the coming recognition points, the next one first; past the end of the list nothing
  is asserted (R43, R254, R280; log entry 7) -/
  signals : List Signals
  /-- the bytes the input devices present to the coming reads, the next one first; past the end of the list a read gets a
  free byte (R72; log entry 8) -/
  inputs : List Byte
  /-- the events so far, the oldest first (R72, R73, R255; log entry 9) -/
  events : List Event
  /-- how many free values have been used (`draw`, R10; log entry 10) -/
  draws : Nat
  /-- the instruction just completed was EI (R254 with `EI_DELAY = 1`; log entry 16) -/
  justEi : Bool
deriving DecidableEq, Repr

/-- The model faults of R251: where the source gives no behaviour, the run stops and no proof can go on. -/
inductive Fault
  /-- Raised by the meanings of the twelve reserved first bytes where `UNDOC_OPCODES` says `fault`, as it does by default
  (R104, R251).  Safe: the source assigns them no effect. -/
  | reservedOpcode (op : Byte)
  /-- Raised by every fetch, read or write of a cell that `MEMMAP` marks absent (R66, R251).  Safe: the source gives no
  result. -/
  | absentMemory (addr : Word)
  /-- Raised by a write to a cell that `MEMMAP` marks ROM (R67, R251).  Safe: the source gives no result. -/
  | writeToNonRam (addr : Word)
  /-- Raised by a fetch or read of a memory cell that nothing has written and the platform did not fill (R251, U5).
  Safe: no value is assumed. -/
  | unwrittenRead (addr : Word)
deriving DecidableEq, Repr

/-- Why the model does not accept a step. -/
inductive Refusal
  /-- Raised by an arm of `exec` that has no meaning yet.  Safe.  No arm of this package raises it. -/
  | notModelled (mnemonic : String)
  /-- Raised at interrupt entry when the interrupting hardware supplies a byte that is no RST: the spec's model refuses
  it (R255, D12, U11).  Safe: no effect is assumed. -/
  | suppliedNotRst (byte : Byte)
deriving DecidableEq, Repr

/-- The outcome of a step or of an instruction. -/
abbrev Out := Host.Outcome State Fault Refusal

/-- The machine right after reset (R48, R280): pc = 0000h, `inte` = 0, `halted` = 0.  The spec gives A to L, SP and the
flags no value after reset; they hold zero here, a DESIGN CHOICE (log entries 1 and 2).  No cell of memory is written, the
parameters are at their defaults and the environment asserts nothing (log entries 4, 5 and 7 to 10). -/
def State.reset : State where
  a := 0
  b := 0
  c := 0
  d := 0
  e := 0
  h := 0
  l := 0
  sp := 0
  pc := 0
  f := ⟨false, false, false, false, false⟩
  inte := false
  halted := false
  mem := []
  params := defaultParams
  signals := []
  inputs := []
  events := []
  draws := 0
  justEi := false

end Sys2Proof.Machine
end

