-- ==== Sys2Proof/Machine/Ops.lean ====
section
/-! DEFINITION. The named operations over the state: single fields, memory, the stack, the ports, free values, taking an
interrupt, returning, and the reset event. -/

namespace Sys2Proof.Machine

/-! ## Single fields -/

/-- `pc <- v`. -/
def State.setPc (s : State) (v : Word) : State := { s with pc := v }
/-- `SP <- v`. -/
def State.setSp (s : State) (v : Word) : State := { s with sp := v }
/-- The flag register becomes `v`. -/
def State.setFlags (s : State) (v : Flags) : State := { s with f := v }
/-- `inte <- v`. -/
def State.setInte (s : State) (v : Bool) : State := { s with inte := v }
/-- `halted <- v`. -/
def State.setHalted (s : State) (v : Bool) : State := { s with halted := v }
/-- Memory becomes `v`. -/
def State.setMem (s : State) (v : Memory) : State := { s with mem := v }
/-- Records an event, after all earlier ones. -/
def State.addEvent (s : State) (v : Event) : State := { s with events := s.events ++ [v] }
/-- Marks whether the instruction just completed was EI. -/
def State.setJustEi (s : State) (v : Bool) : State := { s with justEi := v }

/-! ## Memory -/

/-- The byte listed at `addr`; an address that is not listed has no value (log entry 4). -/
def Memory.read (m : Memory) (addr : Nat) : Option Byte :=
  match m with
  | [] => none
  | (k, v) :: rest => if k = addr then some v else Memory.read rest addr

/-- The memory with byte `v` at `addr`, the addresses still rising. -/
def Memory.write (m : Memory) (addr : Nat) (v : Byte) : Memory :=
  match m with
  | [] => [(addr, v)]
  | (k, w) :: rest =>
    if addr < k then (addr, v) :: (k, w) :: rest
    else if addr = k then (addr, v) :: rest
    else (k, w) :: Memory.write rest addr v

/-- The canonical form: addresses strictly rising, from `least` on and below 2^16 (R44). -/
def Memory.wfFrom (least : Nat) (m : Memory) : Bool :=
  match m with
  | [] => true
  | (k, _) :: rest => decide (least ≤ k) && decide (k < 65536) && Memory.wfFrom (k + 1) rest

/-- The canonical form: addresses strictly rising and below 2^16 (R44).  An unlisted address reads as no value, so no entry
can equal it. -/
def Memory.wf (m : Memory) : Bool := Memory.wfFrom 0 m

/-- What `MEMMAP` says stands at `addr`: the kind of the first region that holds it, absent where none does (R70). -/
def kindAt (map : List Region) (addr : Nat) : MemKind :=
  match map with
  | [] => .absent
  | r :: rest => if r.lo ≤ addr ∧ addr ≤ r.hi then r.kind else kindAt rest addr

/-- What `MEMMAP` says stands at `addr` (R70). -/
def State.kind (s : State) (addr : Word) : MemKind := kindAt s.params.memmap addr.toNat

/-- `MemRead(addr, 1)` (R66): the byte last written, or the content the platform gave the cell.  An absent cell and a cell
without content are the model faults of R251. -/
def State.read (s : State) (addr : Word) : Except Fault Byte :=
  match s.kind addr with
  | .absent => .error (.absentMemory addr)
  | .ram | .rom =>
    match s.mem.read addr.toNat with
    | some v => .ok v
    | none => .error (.unwrittenRead addr)

/-- `MemWrite(addr, 1, v)` (R67): a RAM cell takes the byte; a write to ROM and a write to an absent cell are the model
faults of R251 (log entry 6). -/
def State.write (s : State) (addr : Word) (v : Byte) : Except Fault State :=
  match s.kind addr with
  | .ram => .ok (s.setMem (s.mem.write addr.toNat v))
  | .rom => .error (.writeToNonRam addr)
  | .absent => .error (.absentMemory addr)

/-! ## The stack -/

/-- `push16(v)` (R28): the high byte to SP - 1, the low byte to SP - 2, SP decreased by two. -/
def State.push16 (s : State) (v : Word) : Except Fault State := do
  let t ← s.write (s.sp - 1) (hi v)
  let u ← t.write (s.sp - 2) (lo v)
  .ok (u.setSp (s.sp - 2))

/-- `pop16()` (R29): the low byte from SP, the high byte from SP + 1, SP increased by two. -/
def State.pop16 (s : State) : Except Fault (Word × State) := do
  let low ← s.read s.sp
  let high ← s.read (s.sp + 1)
  .ok (cat high low, s.setSp (s.sp + 2))

/-! ## Free values -/

/-- `draw(1)` (R10): a free bit; the next draw is another one (log entry 10). -/
def State.drawBit (s : State) : Bool × State := (Config.drawBit s.draws, { s with draws := s.draws + 1 })

/-! ## The ports -/

/-- `IoRead(port)` (R72): the byte the device presents, recorded as an input event.  Past the end of the schedule of inputs
it is a free byte (log entry 8). -/
def State.ioRead (s : State) (port : Byte) : Byte × State :=
  match s.inputs with
  | v :: rest => (v, { s with inputs := rest }.addEvent (.input port v))
  | [] =>
    let v := Config.inputByte port s.draws
    (v, { s with draws := s.draws + 1 }.addEvent (.input port v))

/-- `IoWrite(port, v)` (R73): records an output event and changes nothing else. -/
def State.ioWrite (s : State) (port v : Byte) : State := s.addEvent (.output port v)

/-! ## Restart, interrupt entry, return -/

/-- The start of area N: high byte 00h, low byte 8 N (R97, R230). -/
def restartVector (n : BitVec 3) : Word := cat 0 (BitVec.ofNat 8 (n.toNat * 8))

/-- What an RST instruction and interrupt entry share (R229, R256): `push16(pc)`, then pc at area N. -/
def State.restart (s : State) (n : BitVec 3) : Except Fault State := do
  let t ← s.push16 s.pc
  .ok (t.setPc (restartVector n))

/-- Interrupt entry with `RST N` supplied (R256): the halt ends, pc goes to the stack as it is, pc becomes 8 N, `inte`
becomes 0.  The event `int(N)` is recorded (R255). -/
def State.takeInterrupt (s : State) (n : BitVec 3) : Except Fault State := do
  let t ← (s.setHalted false).restart n
  .ok (((t.setInte false).setJustEi false).addEvent (.interrupt n))

/-- The return (R203, R259): `pc <- pop16()`; `inte` stays as it is. -/
def State.returnToCaller (s : State) : Except Fault State := do
  let (target, t) ← s.pop16
  .ok (t.setPc target)

/-! ## Reset during a run -/

/-- Free values for A, B, C, D, E, H, L, SP and the flags: the draws from number `n` on (R281, U4; log entry 3). -/
def drawnValues (n : Nat) : ResetValues where
  a := Config.drawByte n
  b := Config.drawByte (n + 1)
  c := Config.drawByte (n + 2)
  d := Config.drawByte (n + 3)
  e := Config.drawByte (n + 4)
  h := Config.drawByte (n + 5)
  l := Config.drawByte (n + 6)
  sp := Config.drawWord (n + 7)
  f := ⟨Config.drawBit (n + 8), Config.drawBit (n + 9), Config.drawBit (n + 10), Config.drawBit (n + 11),
    Config.drawBit (n + 12)⟩

/-- Writes A, B, C, D, E, H, L, SP and the flags. -/
def State.setRegisters (s : State) (v : ResetValues) : State :=
  { s with a := v.a, b := v.b, c := v.c, d := v.d, e := v.e, h := v.h, l := v.l, sp := v.sp, f := v.f }

/-- The registers and flags after reset (R48, R281, D13): the values of `RESET_VALUES` where it supplies them; with
`RESET_VALUES = none` no value a program may count on, so that each takes a free value (log entry 3). -/
def State.resetRegisters (s : State) : State :=
  match s.params.resetValues with
  | some v => s.setRegisters v
  | none => { s.setRegisters (drawnValues s.draws) with draws := s.draws + 13 }

/-- The reset event (R280, R281): pc = 0000h, `inte` = 0, `halted` = 0, and the registers and flags as `RESET_VALUES` says.
Memory keeps its content. -/
def State.resetEvent (s : State) : State :=
  { s.resetRegisters with pc := 0, inte := false, halted := false, justEi := false }

/-! ## The recognition point -/

/-- What the environment presents at this recognition point (R43, R254). -/
def State.sample (s : State) : Signals := s.signals.headD Signals.quiet

/-- The state once this recognition point's sample is taken. -/
def State.dropSample (s : State) : State := { s with signals := s.signals.tail }

/-- A request can be accepted here (R253, R254, R257): `inte` is 1 and, with `EI_DELAY = 1`, the instruction just completed
was not EI; `EI_DELAY` plays no part while halted. -/
def State.accepts (s : State) : Bool := s.inte && !(s.params.eiDelay && s.justEi && !s.halted)

/-- The number N of the byte `RST N` = `11 nnn 111` (R97); any other byte is no RST. -/
def restartNumber (byte : Byte) : Option (BitVec 3) :=
  if quadrant byte = 3 ∧ field20 byte = 7 then some (BitVec.ofNat 3 (field53 byte)) else none

/-! ## Outcomes -/

/-- An operation that can only go on or raise a model fault, as an outcome. -/
def outcome (x : Except Fault State) : Out :=
  match x with
  | .ok s => .next s
  | .error f => .fault f

end Sys2Proof.Machine
end

