-- ==== Sys2Proof/Machine/Operands.lean ====
section
/-! DEFINITION. The operand forms: 8-bit registers and M, register pairs, and the pairs of the stack and of indirect
addressing (R10, R23, R24). -/

namespace Sys2Proof.Machine

/-! ## 8-bit registers -/

/-- `x[i]`: the content of an 8-bit register (R10). -/
def State.reg (s : State) (r : Reg) : Byte :=
  match r with
  | .b => s.b | .c => s.c | .d => s.d | .e => s.e | .h => s.h | .l => s.l | .a => s.a

/-- `x[i] <- v` (R10). -/
def State.setReg (s : State) (r : Reg) (v : Byte) : State :=
  match r with
  | .b => { s with b := v } | .c => { s with c := v } | .d => { s with d := v } | .e => { s with e := v }
  | .h => { s with h := v } | .l => { s with l := v } | .a => { s with a := v }

/-! ## Pairs -/

/-- `BC` (R24). -/
def State.bc (s : State) : Word := cat s.b s.c
/-- `DE` (R24). -/
def State.de (s : State) : Word := cat s.d s.e
/-- `HL` (R24). -/
def State.hl (s : State) : Word := cat s.h s.l
/-- `BC <- v`. -/
def State.setBc (s : State) (v : Word) : State := { s with b := hi v, c := lo v }
/-- `DE <- v`. -/
def State.setDe (s : State) (v : Word) : State := { s with d := hi v, e := lo v }
/-- `HL <- v`. -/
def State.setHl (s : State) (v : Word) : State := { s with h := hi v, l := lo v }

/-- `rp[k]` (R10, R24). -/
def State.pair (s : State) (r : Pair) : Word :=
  match r with
  | .b => s.bc | .d => s.de | .h => s.hl | .sp => s.sp

/-- `rp[k] <- v` (R10, R24). -/
def State.setPair (s : State) (r : Pair) (v : Word) : State :=
  match r with
  | .b => s.setBc v | .d => s.setDe v | .h => s.setHl v | .sp => s.setSp v

/-- The address in the pair of LDAX and STAX (R127, R128). -/
def State.indirect (s : State) (r : IndirectPair) : Word :=
  match r with
  | .b => s.bc | .d => s.de

/-! ## The 8-bit operand, M included -/

/-- `rd8(i)`: a register, or the memory byte at HL (R10, R23). -/
def State.rd8 (s : State) (x : Operand8) : Except Fault Byte :=
  match x with
  | .reg r => .ok (s.reg r)
  | .m => s.read s.hl

/-- `wr8(i, v)`: a register, or the memory byte at HL (R10, R23). -/
def State.wr8 (s : State) (x : Operand8) (v : Byte) : Except Fault State :=
  match x with
  | .reg r => .ok (s.setReg r v)
  | .m => s.write s.hl v

end Sys2Proof.Machine
end

