-- ==== Sys2Proof/Machine/Flags.lean ====
section
/-! DEFINITION. Every flag computation (R30 to R39, R156, R167, R204): z, s, p of a result, 8-bit addition and subtraction
with carry and auxiliary carry, decimal adjust, the flag byte, and the conditions. -/

namespace Sys2Proof.Machine

/-- A result with the carry and the auxiliary carry it makes: the triple of R37, R38 and R156. -/
structure AluResult where
  r : Byte
  c : Bool
  ac : Bool
deriving DecidableEq, Repr

/-- The two logic operations whose ac the source leaves open (R167). -/
inductive LogicOp
  | and
  | xor
deriving DecidableEq, Repr

/-- `set_zsp(v)` (R36): z, s and p from the result; ac and c stay. -/
def Flags.setZsp (f : Flags) (v : Byte) : Flags := { f with z := v == 0, s := v.msb, p := parity8 v }

/-- The value of a bit as a number. -/
def bit (b : Bool) : Nat := if b then 1 else 0

/-- The low 4-bit group `v[3:0]`. -/
def lowGroup (v : Byte) : Nat := v.toNat % 16

/-- `add8(a, b, cin)` (R37). -/
def add8 (a b : Byte) (cin : Bool) : AluResult :=
  let t := a.toNat + b.toNat + bit cin
  { r := BitVec.ofNat 8 t, c := decide (255 < t), ac := decide (15 < lowGroup a + lowGroup b + bit cin) }

/-- The default of `SUB_AC` (R38): the carry out of D3 of `a + ~b + 1 - bin`. -/
def subAcCarryOut (a b : Byte) (bin : Bool) : Bool :=
  decide (15 < lowGroup a + lowGroup (~~~b) + (1 - bit bin))

/-- `SUB_AC(a, b, bin)` (R38, D6). -/
def subAc (p : Params) (a b : Byte) (bin : Bool) : Bool :=
  match p.subAc with
  | .carryOut => subAcCarryOut a b bin
  | .uninterpreted => Config.subAc a b bin

/-- `sub8(a, b, bin)` (R38): the carry is the borrow (R31). -/
def sub8 (p : Params) (a b : Byte) (bin : Bool) : AluResult :=
  let d : Int := (a.toNat : Int) - b.toNat - bit bin
  { r := BitVec.ofInt 8 d, c := decide (d < 0), ac := subAc p a b bin }

/-- `DAA_FN` as R156 writes it. -/
def daaAdjust (a : Byte) (ac c : Bool) : AluResult :=
  let low := a.toNat % 16
  let high := a.toNat / 16
  let lowFix := decide (9 < low) || ac
  let highFix := decide (9 < high) || c || (decide (high = 9) && decide (9 < low))
  let adj := (if lowFix then 0x06 else 0x00) + (if highFix then 0x60 else 0x00)
  { r := BitVec.ofNat 8 (a.toNat + adj), c := highFix || c, ac := decide (15 < low + adj % 16) }

/-- `DAA_FN` (R156, D7). -/
def daaFn (p : Params) (a : Byte) (ac c : Bool) : AluResult :=
  match p.daaFn with
  | .adjust => daaAdjust a ac c
  | .uninterpreted => let x := Config.daaFn a ac c; ⟨x.1, x.2.1, x.2.2⟩

/-- All five flags of a result: `set_zsp(r); f.c <- c'; f.ac <- ac'` (R37). -/
def AluResult.flags (x : AluResult) : Flags := { z := x.r == 0, s := x.r.msb, p := parity8 x.r, ac := x.ac, c := x.c }

/-- `AC_LOGIC(op, a, b)` (R167, D4), with the state after the draw it may take. -/
def State.acLogic (s : State) (op : LogicOp) (a b : Byte) : Bool × State :=
  match s.params.acLogic with
  | .draw => s.drawBit
  | .unchanged => (s.f.ac, s)
  | .i8080 =>
    match op with
    | .and => ((a ||| b).getLsbD 3, s)
    | .xor => (false, s)

/-- `flagbyte()` (R34): s, z, 0, ac, 0, p, 1, c from D7 down to D0. -/
def Flags.byte (f : Flags) : Byte :=
  BitVec.ofBool f.s ++ BitVec.ofBool f.z ++ 0#1 ++ BitVec.ofBool f.ac ++ 0#1 ++ BitVec.ofBool f.p ++ 1#1 ++ BitVec.ofBool f.c

/-- The flags that POP PSW loads from a byte (R34): D7, D6, D4, D2, D0; the other three bits are dropped. -/
def flagsOfByte (v : Byte) : Flags :=
  { z := v.getLsbD 6, s := v.getLsbD 7, p := v.getLsbD 2, ac := v.getLsbD 4, c := v.getLsbD 0 }

/-- The value of a pair of PUSH and POP; PSW is A over the flag byte (R24, R34). -/
def State.stackPair (s : State) (r : StackPair) : Word :=
  match r with
  | .b => s.bc | .d => s.de | .h => s.hl | .psw => cat s.a s.f.byte

/-- Writes a pair of PUSH and POP; PSW writes A and the five flags (R24, R34, R133). -/
def State.setStackPair (s : State) (r : StackPair) (v : Word) : State :=
  match r with
  | .b => s.setBc v | .d => s.setDe v | .h => s.setHl v | .psw => { s with a := hi v, f := flagsOfByte (lo v) }

/-- `cond(ccc)` (R204). -/
def Flags.holds (f : Flags) (k : Cond) : Bool :=
  match k with
  | .nz => !f.z
  | .z => f.z
  | .nc => !f.c
  | .c => f.c
  | .po => !f.p
  | .pe => f.p
  | .p => !f.s
  | .m => f.s

end Sys2Proof.Machine
end

