-- ==== Sys2Proof/Machine/ControlIo.lean ====
section
/-! DEFINITION. The control instructions IN, OUT, EI, DI, NOP, HLT (R240 to R246).  No flag changes. -/

namespace Sys2Proof.Machine

/-- `NOP` (00h, R244). Nothing but the advance of pc by the fetch. -/
def execNop (s : State) : Out := .next s

/-- `HLT` (76h, R245). pc already addresses the byte after the HLT. -/
def execHlt (s : State) : Out := .next (s.setHalted true)

/-- `OUT N` (D3h, R241). A is unchanged; an output event is recorded. -/
def execOutPort (port : Byte) (s : State) : Out := .next (s.ioWrite port s.a)

/-- `IN N` (DBh, R240). The byte is the environment's; no flag changes. -/
def execInPort (port : Byte) (s : State) : Out :=
  let (v, t) := s.ioRead port
  .next (t.setReg .a v)

/-- `DI` (F3h, R243). -/
def execDi (s : State) : Out := .next (s.setInte false)

/-- `EI` (FBh, R242). `inte` is 1; the mark that the instruction was EI is read only with `EI_DELAY = 1` (R254). -/
def execEi (s : State) : Out := .next ((s.setInte true).setJustEi true)

end Sys2Proof.Machine
end

