-- ==== Sys2Proof/Machine/ControlTransfer.lean ====
section
/-! DEFINITION. Jumps, calls, returns and restarts (R200 to R231).  No flag changes; RST alone changes `inte`. -/

namespace Sys2Proof.Machine

/-- `push16(pc); pc <- target` (R202). -/
def State.callTo (s : State) (target : Word) : Except Fault State := do
  let t ← s.push16 s.pc
  .ok (t.setPc target)

/-- The conditional jumps (R205 to R212). -/
def jumpIf (k : Cond) (target : Word) (s : State) : Out := .next (if s.f.holds k then s.setPc target else s)

/-- The conditional calls (R213 to R220): CALL when the condition holds, else nothing. -/
def callIf (k : Cond) (target : Word) (s : State) : Out := if s.f.holds k then outcome (s.callTo target) else .next s

/-- The conditional returns (R221 to R228): RET when the condition holds, else nothing. -/
def returnIf (k : Cond) (s : State) : Out := if s.f.holds k then outcome s.returnToCaller else .next s

/-- `RST N` fetched from memory (R229): the restart, and `inte <- 0` when `RST_SW_CLEARS_INTE` is true (log entry 15). -/
def restartByProgram (n : BitVec 3) (s : State) : Out :=
  outcome do
    let t ← s.restart n
    .ok (if s.params.rstSwClearsInte then t.setInte false else t)

/-- `RNZ` (C0h, R221). -/
def execRnz (s : State) : Out := returnIf .nz s

/-- `JNZ ADR` (C2h, R205). -/
def execJnz (adr : Word) (s : State) : Out := jumpIf .nz adr s

/-- `JMP ADR` (C3h, R201). -/
def execJmp (adr : Word) (s : State) : Out := .next (s.setPc adr)

/-- `CNZ ADR` (C4h, R213). -/
def execCnz (adr : Word) (s : State) : Out := callIf .nz adr s

/-- `RST 0` (C7h, R229). -/
def execRst0 (s : State) : Out := restartByProgram 0 s

/-- `RZ` (C8h, R222). -/
def execRz (s : State) : Out := returnIf .z s

/-- `RET` (C9h, R203). -/
def execRet (s : State) : Out := outcome s.returnToCaller

/-- `JZ ADR` (CAh, R206). -/
def execJz (adr : Word) (s : State) : Out := jumpIf .z adr s

/-- `CZ ADR` (CCh, R214). -/
def execCz (adr : Word) (s : State) : Out := callIf .z adr s

/-- `CALL ADR` (CDh, R202). -/
def execCall (adr : Word) (s : State) : Out := outcome (s.callTo adr)

/-- `RST 1` (CFh, R229). -/
def execRst1 (s : State) : Out := restartByProgram 1 s

/-- `RNC` (D0h, R223). -/
def execRnc (s : State) : Out := returnIf .nc s

/-- `JNC ADR` (D2h, R207). -/
def execJnc (adr : Word) (s : State) : Out := jumpIf .nc adr s

/-- `CNC ADR` (D4h, R215). -/
def execCnc (adr : Word) (s : State) : Out := callIf .nc adr s

/-- `RST 2` (D7h, R229). -/
def execRst2 (s : State) : Out := restartByProgram 2 s

/-- `RC` (D8h, R224). -/
def execRc (s : State) : Out := returnIf .c s

/-- `JC ADR` (DAh, R208). -/
def execJc (adr : Word) (s : State) : Out := jumpIf .c adr s

/-- `CC ADR` (DCh, R216). -/
def execCc (adr : Word) (s : State) : Out := callIf .c adr s

/-- `RST 3` (DFh, R229). -/
def execRst3 (s : State) : Out := restartByProgram 3 s

/-- `RPO` (E0h, R225). -/
def execRpo (s : State) : Out := returnIf .po s

/-- `JPO ADR` (E2h, R209). -/
def execJpo (adr : Word) (s : State) : Out := jumpIf .po adr s

/-- `CPO ADR` (E4h, R217). -/
def execCpo (adr : Word) (s : State) : Out := callIf .po adr s

/-- `RST 4` (E7h, R229). -/
def execRst4 (s : State) : Out := restartByProgram 4 s

/-- `RPE` (E8h, R226). -/
def execRpe (s : State) : Out := returnIf .pe s

/-- `JPE ADR` (EAh, R210). -/
def execJpe (adr : Word) (s : State) : Out := jumpIf .pe adr s

/-- `CPE ADR` (ECh, R218). -/
def execCpe (adr : Word) (s : State) : Out := callIf .pe adr s

/-- `RST 5` (EFh, R229). -/
def execRst5 (s : State) : Out := restartByProgram 5 s

/-- `RP` (F0h, R227). -/
def execRp (s : State) : Out := returnIf .p s

/-- `JP ADR` (F2h, R211). -/
def execJp (adr : Word) (s : State) : Out := jumpIf .p adr s

/-- `CP ADR` (F4h, R219). -/
def execCp (adr : Word) (s : State) : Out := callIf .p adr s

/-- `RST 6` (F7h, R229). -/
def execRst6 (s : State) : Out := restartByProgram 6 s

/-- `RM` (F8h, R228). -/
def execRm (s : State) : Out := returnIf .m s

/-- `JM ADR` (FAh, R212). -/
def execJm (adr : Word) (s : State) : Out := jumpIf .m adr s

/-- `CM ADR` (FCh, R220). -/
def execCm (adr : Word) (s : State) : Out := callIf .m adr s

/-- `RST 7` (FFh, R229). -/
def execRst7 (s : State) : Out := restartByProgram 7 s

end Sys2Proof.Machine
end

