-- ==== Sys2Proof/Machine/DataProcessing.lean ====
section
/-! DEFINITION. The data-processing instructions (R150 to R177): first what the instructions of one shape share, then one
meaning for each row of the table. -/

namespace Sys2Proof.Machine

/-! ## What a result does to A and the flags -/

/-- `A <- r; set_zsp(r); f.c <- c'; f.ac <- ac'` (R150 and the rules of its shape). -/
def State.setResult (s : State) (x : AluResult) : State := { s with a := x.r, f := x.flags }

/-- The result of AND or exclusive OR (R161, R162, R165, R166): z, s, p from it, c = 0, ac by `AC_LOGIC`. -/
def State.setLogic (s : State) (op : LogicOp) (b r : Byte) : State :=
  let (ac, t) := s.acLogic op s.a b
  t.setResult ⟨r, false, ac⟩

/-- The flags of a comparison (R169, R171): z and c always; s, p and ac as after SUB with `CMP_FLAGS = all`, free bits
with `zc_only`. -/
def State.setCompare (s : State) (x : AluResult) : State :=
  match s.params.cmpFlags with
  | .all => s.setFlags x.flags
  | .zcOnly =>
    let (sign, t) := s.drawBit
    let (parity, u) := t.drawBit
    let (ac, v) := u.drawBit
    v.setFlags ⟨x.r == 0, sign, parity, ac, x.c⟩

/-! ## Two operands, the second given as a byte -/

/-- ADD and ADI (R150, R152). -/
def addByte (v : Byte) (s : State) : State := s.setResult (add8 s.a v false)
/-- ADC and ACI (R151, R153). -/
def adcByte (v : Byte) (s : State) : State := s.setResult (add8 s.a v s.f.c)
/-- SUB and SUI (R157, R159). -/
def subByte (v : Byte) (s : State) : State := s.setResult (sub8 s.params s.a v false)
/-- SBB and SBI (R158, R160). -/
def sbbByte (v : Byte) (s : State) : State := s.setResult (sub8 s.params s.a v s.f.c)
/-- ANA and ANI (R161, R162). -/
def anaByte (v : Byte) (s : State) : State := s.setLogic .and v (s.a &&& v)
/-- XRA and XRI (R165, R166). -/
def xraByte (v : Byte) (s : State) : State := s.setLogic .xor v (s.a ^^^ v)
/-- ORA and ORI (R163, R164): c = ac = 0. -/
def oraByte (v : Byte) (s : State) : State := s.setResult ⟨s.a ||| v, false, false⟩
/-- CMP and CPI (R169, R171): A stays. -/
def cmpByte (v : Byte) (s : State) : State := s.setCompare (sub8 s.params s.a v false)

/-! ## Two operands, the second in a register or M (R168) -/

/-- Reads the 8-bit operand and goes on with its value. -/
def withOperand (x : Operand8) (k : Byte → State → State) (s : State) : Out :=
  outcome do
    let v ← s.rd8 x
    .ok (k v s)

/-- `ADD R` (R150). -/
def addOperand (x : Operand8) (s : State) : Out := withOperand x addByte s
/-- `ADC R` (R151). -/
def adcOperand (x : Operand8) (s : State) : Out := withOperand x adcByte s
/-- `SUB R` (R157). -/
def subOperand (x : Operand8) (s : State) : Out := withOperand x subByte s
/-- `SBB R` (R158). -/
def sbbOperand (x : Operand8) (s : State) : Out := withOperand x sbbByte s
/-- `ANA R` (R161). -/
def anaOperand (x : Operand8) (s : State) : Out := withOperand x anaByte s
/-- `XRA R` (R165). -/
def xraOperand (x : Operand8) (s : State) : Out := withOperand x xraByte s
/-- `ORA R` (R163). -/
def oraOperand (x : Operand8) (s : State) : Out := withOperand x oraByte s
/-- `CMP R` (R169). -/
def cmpOperand (x : Operand8) (s : State) : Out := withOperand x cmpByte s

/-! ## One operand -/

/-- What INR and DCR write: the operand, and z, s, p, ac; c stays (R172, R174). -/
def State.setCounted (s : State) (x : Operand8) (res : AluResult) : Except Fault State := do
  let t ← s.wr8 x res.r
  .ok (t.setFlags { t.f.setZsp res.r with ac := res.ac })

/-- `INR R` (R172). -/
def increment (x : Operand8) (s : State) : Out :=
  outcome do
    let v ← s.rd8 x
    s.setCounted x (add8 v 1 false)

/-- `DCR R` (R174). -/
def decrement (x : Operand8) (s : State) : Out :=
  outcome do
    let v ← s.rd8 x
    s.setCounted x (sub8 s.params v 1 false)

/-- `INX RP` (R173): no flag changes. -/
def incrementPair (r : Pair) (s : State) : Out := .next (s.setPair r (s.pair r + 1))

/-- `DCX RP` (R175): no flag changes. -/
def decrementPair (r : Pair) (s : State) : Out := .next (s.setPair r (s.pair r - 1))

/-- `DAD RP` (R154): one 16-bit addition to HL; c is the carry out of bit 15 and no other flag changes. -/
def addPair (r : Pair) (s : State) : Out :=
  let t := s.hl.toNat + (s.pair r).toNat
  .next ((s.setHl (BitVec.ofNat 16 t)).setFlags { s.f with c := decide (65535 < t) })

/-! ## The meanings -/

/-- `INX B` (03h, R173). -/
def execInxB (s : State) : Out := incrementPair .b s

/-- `INR B` (04h, R172). -/
def execInrB (s : State) : Out := increment (.reg .b) s

/-- `DCR B` (05h, R174). -/
def execDcrB (s : State) : Out := decrement (.reg .b) s

/-- `DAD B` (09h, R154). -/
def execDadB (s : State) : Out := addPair .b s

/-- `DCX B` (0Bh, R175). -/
def execDcxB (s : State) : Out := decrementPair .b s

/-- `INR C` (0Ch, R172). -/
def execInrC (s : State) : Out := increment (.reg .c) s

/-- `DCR C` (0Dh, R174). -/
def execDcrC (s : State) : Out := decrement (.reg .c) s

/-- `INX D` (13h, R173). -/
def execInxD (s : State) : Out := incrementPair .d s

/-- `INR D` (14h, R172). -/
def execInrD (s : State) : Out := increment (.reg .d) s

/-- `DCR D` (15h, R174). -/
def execDcrD (s : State) : Out := decrement (.reg .d) s

/-- `DAD D` (19h, R154). -/
def execDadD (s : State) : Out := addPair .d s

/-- `DCX D` (1Bh, R175). -/
def execDcxD (s : State) : Out := decrementPair .d s

/-- `INR E` (1Ch, R172). -/
def execInrE (s : State) : Out := increment (.reg .e) s

/-- `DCR E` (1Dh, R174). -/
def execDcrE (s : State) : Out := decrement (.reg .e) s

/-- `INX H` (23h, R173). -/
def execInxH (s : State) : Out := incrementPair .h s

/-- `INR H` (24h, R172). -/
def execInrH (s : State) : Out := increment (.reg .h) s

/-- `DCR H` (25h, R174). -/
def execDcrH (s : State) : Out := decrement (.reg .h) s

/-- `DAA` (27h, R155). The triple of `DAA_FN` goes to A and all five flags. -/
def execDaa (s : State) : Out := .next (s.setResult (daaFn s.params s.a s.f.ac s.f.c))

/-- `DAD H` (29h, R154). -/
def execDadH (s : State) : Out := addPair .h s

/-- `DCX H` (2Bh, R175). -/
def execDcxH (s : State) : Out := decrementPair .h s

/-- `INR L` (2Ch, R172). -/
def execInrL (s : State) : Out := increment (.reg .l) s

/-- `DCR L` (2Dh, R174). -/
def execDcrL (s : State) : Out := decrement (.reg .l) s

/-- `INX SP` (33h, R173). -/
def execInxSp (s : State) : Out := incrementPair .sp s

/-- `INR M` (34h, R172). -/
def execInrM (s : State) : Out := increment .m s

/-- `DCR M` (35h, R174). -/
def execDcrM (s : State) : Out := decrement .m s

/-- `DAD SP` (39h, R154). -/
def execDadSp (s : State) : Out := addPair .sp s

/-- `DCX SP` (3Bh, R175). -/
def execDcxSp (s : State) : Out := decrementPair .sp s

/-- `INR A` (3Ch, R172). -/
def execInrA (s : State) : Out := increment (.reg .a) s

/-- `DCR A` (3Dh, R174). -/
def execDcrA (s : State) : Out := decrement (.reg .a) s

/-- `ADD B` (80h, R150). -/
def execAddB (s : State) : Out := addOperand (.reg .b) s

/-- `ADD C` (81h, R150). -/
def execAddC (s : State) : Out := addOperand (.reg .c) s

/-- `ADD D` (82h, R150). -/
def execAddD (s : State) : Out := addOperand (.reg .d) s

/-- `ADD E` (83h, R150). -/
def execAddE (s : State) : Out := addOperand (.reg .e) s

/-- `ADD H` (84h, R150). -/
def execAddH (s : State) : Out := addOperand (.reg .h) s

/-- `ADD L` (85h, R150). -/
def execAddL (s : State) : Out := addOperand (.reg .l) s

/-- `ADD M` (86h, R150). -/
def execAddM (s : State) : Out := addOperand .m s

/-- `ADD A` (87h, R150). -/
def execAddA (s : State) : Out := addOperand (.reg .a) s

/-- `ADC B` (88h, R151). -/
def execAdcB (s : State) : Out := adcOperand (.reg .b) s

/-- `ADC C` (89h, R151). -/
def execAdcC (s : State) : Out := adcOperand (.reg .c) s

/-- `ADC D` (8Ah, R151). -/
def execAdcD (s : State) : Out := adcOperand (.reg .d) s

/-- `ADC E` (8Bh, R151). -/
def execAdcE (s : State) : Out := adcOperand (.reg .e) s

/-- `ADC H` (8Ch, R151). -/
def execAdcH (s : State) : Out := adcOperand (.reg .h) s

/-- `ADC L` (8Dh, R151). -/
def execAdcL (s : State) : Out := adcOperand (.reg .l) s

/-- `ADC M` (8Eh, R151). -/
def execAdcM (s : State) : Out := adcOperand .m s

/-- `ADC A` (8Fh, R151). -/
def execAdcA (s : State) : Out := adcOperand (.reg .a) s

/-- `SUB B` (90h, R157). -/
def execSubB (s : State) : Out := subOperand (.reg .b) s

/-- `SUB C` (91h, R157). -/
def execSubC (s : State) : Out := subOperand (.reg .c) s

/-- `SUB D` (92h, R157). -/
def execSubD (s : State) : Out := subOperand (.reg .d) s

/-- `SUB E` (93h, R157). -/
def execSubE (s : State) : Out := subOperand (.reg .e) s

/-- `SUB H` (94h, R157). -/
def execSubH (s : State) : Out := subOperand (.reg .h) s

/-- `SUB L` (95h, R157). -/
def execSubL (s : State) : Out := subOperand (.reg .l) s

/-- `SUB M` (96h, R157). -/
def execSubM (s : State) : Out := subOperand .m s

/-- `SUB A` (97h, R157). -/
def execSubA (s : State) : Out := subOperand (.reg .a) s

/-- `SBB B` (98h, R158). -/
def execSbbB (s : State) : Out := sbbOperand (.reg .b) s

/-- `SBB C` (99h, R158). -/
def execSbbC (s : State) : Out := sbbOperand (.reg .c) s

/-- `SBB D` (9Ah, R158). -/
def execSbbD (s : State) : Out := sbbOperand (.reg .d) s

/-- `SBB E` (9Bh, R158). -/
def execSbbE (s : State) : Out := sbbOperand (.reg .e) s

/-- `SBB H` (9Ch, R158). -/
def execSbbH (s : State) : Out := sbbOperand (.reg .h) s

/-- `SBB L` (9Dh, R158). -/
def execSbbL (s : State) : Out := sbbOperand (.reg .l) s

/-- `SBB M` (9Eh, R158). -/
def execSbbM (s : State) : Out := sbbOperand .m s

/-- `SBB A` (9Fh, R158). -/
def execSbbA (s : State) : Out := sbbOperand (.reg .a) s

/-- `ANA B` (A0h, R161). -/
def execAnaB (s : State) : Out := anaOperand (.reg .b) s

/-- `ANA C` (A1h, R161). -/
def execAnaC (s : State) : Out := anaOperand (.reg .c) s

/-- `ANA D` (A2h, R161). -/
def execAnaD (s : State) : Out := anaOperand (.reg .d) s

/-- `ANA E` (A3h, R161). -/
def execAnaE (s : State) : Out := anaOperand (.reg .e) s

/-- `ANA H` (A4h, R161). -/
def execAnaH (s : State) : Out := anaOperand (.reg .h) s

/-- `ANA L` (A5h, R161). -/
def execAnaL (s : State) : Out := anaOperand (.reg .l) s

/-- `ANA M` (A6h, R161). -/
def execAnaM (s : State) : Out := anaOperand .m s

/-- `ANA A` (A7h, R161). -/
def execAnaA (s : State) : Out := anaOperand (.reg .a) s

/-- `XRA B` (A8h, R165). -/
def execXraB (s : State) : Out := xraOperand (.reg .b) s

/-- `XRA C` (A9h, R165). -/
def execXraC (s : State) : Out := xraOperand (.reg .c) s

/-- `XRA D` (AAh, R165). -/
def execXraD (s : State) : Out := xraOperand (.reg .d) s

/-- `XRA E` (ABh, R165). -/
def execXraE (s : State) : Out := xraOperand (.reg .e) s

/-- `XRA H` (ACh, R165). -/
def execXraH (s : State) : Out := xraOperand (.reg .h) s

/-- `XRA L` (ADh, R165). -/
def execXraL (s : State) : Out := xraOperand (.reg .l) s

/-- `XRA M` (AEh, R165). -/
def execXraM (s : State) : Out := xraOperand .m s

/-- `XRA A` (AFh, R165). -/
def execXraA (s : State) : Out := xraOperand (.reg .a) s

/-- `ORA B` (B0h, R163). -/
def execOraB (s : State) : Out := oraOperand (.reg .b) s

/-- `ORA C` (B1h, R163). -/
def execOraC (s : State) : Out := oraOperand (.reg .c) s

/-- `ORA D` (B2h, R163). -/
def execOraD (s : State) : Out := oraOperand (.reg .d) s

/-- `ORA E` (B3h, R163). -/
def execOraE (s : State) : Out := oraOperand (.reg .e) s

/-- `ORA H` (B4h, R163). -/
def execOraH (s : State) : Out := oraOperand (.reg .h) s

/-- `ORA L` (B5h, R163). -/
def execOraL (s : State) : Out := oraOperand (.reg .l) s

/-- `ORA M` (B6h, R163). -/
def execOraM (s : State) : Out := oraOperand .m s

/-- `ORA A` (B7h, R163). -/
def execOraA (s : State) : Out := oraOperand (.reg .a) s

/-- `CMP B` (B8h, R169). -/
def execCmpB (s : State) : Out := cmpOperand (.reg .b) s

/-- `CMP C` (B9h, R169). -/
def execCmpC (s : State) : Out := cmpOperand (.reg .c) s

/-- `CMP D` (BAh, R169). -/
def execCmpD (s : State) : Out := cmpOperand (.reg .d) s

/-- `CMP E` (BBh, R169). -/
def execCmpE (s : State) : Out := cmpOperand (.reg .e) s

/-- `CMP H` (BCh, R169). -/
def execCmpH (s : State) : Out := cmpOperand (.reg .h) s

/-- `CMP L` (BDh, R169). -/
def execCmpL (s : State) : Out := cmpOperand (.reg .l) s

/-- `CMP M` (BEh, R169). -/
def execCmpM (s : State) : Out := cmpOperand .m s

/-- `CMP A` (BFh, R169). -/
def execCmpA (s : State) : Out := cmpOperand (.reg .a) s

/-- `ADI D8` (C6h, R152). -/
def execAdi (d8 : Byte) (s : State) : Out := .next (addByte d8 s)

/-- `ACI D8` (CEh, R153). -/
def execAci (d8 : Byte) (s : State) : Out := .next (adcByte d8 s)

/-- `SUI D8` (D6h, R159). -/
def execSui (d8 : Byte) (s : State) : Out := .next (subByte d8 s)

/-- `SBI D8` (DEh, R160). -/
def execSbi (d8 : Byte) (s : State) : Out := .next (sbbByte d8 s)

/-- `ANI D8` (E6h, R162). -/
def execAni (d8 : Byte) (s : State) : Out := .next (anaByte d8 s)

/-- `XRI D8` (EEh, R166). -/
def execXri (d8 : Byte) (s : State) : Out := .next (xraByte d8 s)

/-- `ORI D8` (F6h, R164). -/
def execOri (d8 : Byte) (s : State) : Out := .next (oraByte d8 s)

/-- `CPI D8` (FEh, R171). -/
def execCpi (d8 : Byte) (s : State) : Out := .next (cmpByte d8 s)

end Sys2Proof.Machine
end

