-- ==== Sys2Proof/WellFormed.lean ====
section
/-! DEFINITION. Which terms of `Instr` are instructions of the set.  Every value of an immediate is legal (R106), and
their widths are in their types, so the one check is that the first byte is assigned: the twelve first bytes of R104 have
no instruction. -/

namespace Sys2Proof

/-- The instruction stands at one of the twelve first bytes that Таблица 12 marks with a dash (R104). -/
def Instr.isReserved (i : Instr) : Bool :=
  [.reserved08, .reserved10, .reserved18, .reserved20, .reserved28, .reserved30, .reserved38, .reservedCB, .reservedD9,
    .reservedDD, .reservedED, .reservedFD].contains i

/-- An instruction of the set: its first byte is one of the 244 assigned ones (R100, R104, R106). -/
def Instr.wellFormed (i : Instr) : Bool := !i.isReserved

end Sys2Proof
end

