-- ==== Sys2Proof/Decode.lean ====
section
/-! DEFINITION. The decoder and, after it, the encoder.  The decoder reads the fields of the first byte quadrant by quadrant
(R93 to R99); the encoder is the matrix of Таблица 12 (R100) cell by cell.  The two are written independently of each other. -/

namespace Sys2Proof

open Machine (cat hi lo quadrant field53 field54 field20)

/-! ## The cells of a family, by operand -/

/-- `MOV R1, R2` with both operands registers: destination first (R93, R120). -/
def Instr.movRR : Reg → Reg → Instr
  | .b, .b => .movBB | .b, .c => .movBC | .b, .d => .movBD | .b, .e => .movBE | .b, .h => .movBH
  | .b, .l => .movBL | .b, .a => .movBA | .c, .b => .movCB | .c, .c => .movCC | .c, .d => .movCD
  | .c, .e => .movCE | .c, .h => .movCH | .c, .l => .movCL | .c, .a => .movCA | .d, .b => .movDB
  | .d, .c => .movDC | .d, .d => .movDD | .d, .e => .movDE | .d, .h => .movDH | .d, .l => .movDL
  | .d, .a => .movDA | .e, .b => .movEB | .e, .c => .movEC | .e, .d => .movED | .e, .e => .movEE
  | .e, .h => .movEH | .e, .l => .movEL | .e, .a => .movEA | .h, .b => .movHB | .h, .c => .movHC
  | .h, .d => .movHD | .h, .e => .movHE | .h, .h => .movHH | .h, .l => .movHL | .h, .a => .movHA
  | .l, .b => .movLB | .l, .c => .movLC | .l, .d => .movLD | .l, .e => .movLE | .l, .h => .movLH
  | .l, .l => .movLL | .l, .a => .movLA | .a, .b => .movAB | .a, .c => .movAC | .a, .d => .movAD
  | .a, .e => .movAE | .a, .h => .movAH | .a, .l => .movAL | .a, .a => .movAA

/-- `MOV R, M` (R93, R121). -/
def Instr.movRM : Reg → Instr
  | .b => .movBM | .c => .movCM | .d => .movDM | .e => .movEM | .h => .movHM | .l => .movLM | .a => .movAM

/-- `MOV M, R` (R93, R122). -/
def Instr.movMR : Reg → Instr
  | .b => .movMB | .c => .movMC | .d => .movMD | .e => .movME | .h => .movMH | .l => .movML | .a => .movMA

/-- `MVI R, B2` and `MVI M, B2` (R93, R123, R124). -/
def Instr.mvi : Operand8 → Byte → Instr
  | .reg .b, d8 => .mviB d8 | .reg .c, d8 => .mviC d8 | .reg .d, d8 => .mviD d8 | .reg .e, d8 => .mviE d8
  | .reg .h, d8 => .mviH d8 | .reg .l, d8 => .mviL d8 | .m, d8 => .mviM d8 | .reg .a, d8 => .mviA d8

/-- The operation `op` on A and an 8-bit operand: quadrant 10 (R93, R99). -/
def Instr.alu : AluOp → Operand8 → Instr
  | .add, .reg .b => .addB | .add, .reg .c => .addC | .add, .reg .d => .addD | .add, .reg .e => .addE
  | .add, .reg .h => .addH | .add, .reg .l => .addL | .add, .m => .addM | .add, .reg .a => .addA
  | .adc, .reg .b => .adcB | .adc, .reg .c => .adcC | .adc, .reg .d => .adcD | .adc, .reg .e => .adcE
  | .adc, .reg .h => .adcH | .adc, .reg .l => .adcL | .adc, .m => .adcM | .adc, .reg .a => .adcA
  | .sub, .reg .b => .subB | .sub, .reg .c => .subC | .sub, .reg .d => .subD | .sub, .reg .e => .subE
  | .sub, .reg .h => .subH | .sub, .reg .l => .subL | .sub, .m => .subM | .sub, .reg .a => .subA
  | .sbb, .reg .b => .sbbB | .sbb, .reg .c => .sbbC | .sbb, .reg .d => .sbbD | .sbb, .reg .e => .sbbE
  | .sbb, .reg .h => .sbbH | .sbb, .reg .l => .sbbL | .sbb, .m => .sbbM | .sbb, .reg .a => .sbbA
  | .ana, .reg .b => .anaB | .ana, .reg .c => .anaC | .ana, .reg .d => .anaD | .ana, .reg .e => .anaE
  | .ana, .reg .h => .anaH | .ana, .reg .l => .anaL | .ana, .m => .anaM | .ana, .reg .a => .anaA
  | .xra, .reg .b => .xraB | .xra, .reg .c => .xraC | .xra, .reg .d => .xraD | .xra, .reg .e => .xraE
  | .xra, .reg .h => .xraH | .xra, .reg .l => .xraL | .xra, .m => .xraM | .xra, .reg .a => .xraA
  | .ora, .reg .b => .oraB | .ora, .reg .c => .oraC | .ora, .reg .d => .oraD | .ora, .reg .e => .oraE
  | .ora, .reg .h => .oraH | .ora, .reg .l => .oraL | .ora, .m => .oraM | .ora, .reg .a => .oraA
  | .cmp, .reg .b => .cmpB | .cmp, .reg .c => .cmpC | .cmp, .reg .d => .cmpD | .cmp, .reg .e => .cmpE
  | .cmp, .reg .h => .cmpH | .cmp, .reg .l => .cmpL | .cmp, .m => .cmpM | .cmp, .reg .a => .cmpA

/-- The operation `op` on A and an 8-bit immediate (R99): ADI, ACI, SUI, SBI, ANI, XRI, ORI, CPI. -/
def Instr.aluImm : AluOp → Byte → Instr
  | .add, d8 => .adi d8 | .adc, d8 => .aci d8 | .sub, d8 => .sui d8 | .sbb, d8 => .sbi d8 | .ana, d8 => .ani d8
  | .xra, d8 => .xri d8 | .ora, d8 => .ori d8 | .cmp, d8 => .cpi d8

/-- `INR R` (R93, R172). -/
def Instr.inr : Operand8 → Instr
  | .reg .b => .inrB | .reg .c => .inrC | .reg .d => .inrD | .reg .e => .inrE | .reg .h => .inrH
  | .reg .l => .inrL | .m => .inrM | .reg .a => .inrA

/-- `DCR R` (R93, R174). -/
def Instr.dcr : Operand8 → Instr
  | .reg .b => .dcrB | .reg .c => .dcrC | .reg .d => .dcrD | .reg .e => .dcrE | .reg .h => .dcrH
  | .reg .l => .dcrL | .m => .dcrM | .reg .a => .dcrA

/-- `LXI RP, B3 B2` (R94, R129). -/
def Instr.lxi : Pair → Word → Instr
  | .b, d16 => .lxiB d16 | .d, d16 => .lxiD d16 | .h, d16 => .lxiH d16 | .sp, d16 => .lxiSp d16

/-- `DAD RP` (R94, R154). -/
def Instr.dad : Pair → Instr
  | .b => .dadB | .d => .dadD | .h => .dadH | .sp => .dadSp

/-- `INX RP` (R94, R173). -/
def Instr.inx : Pair → Instr
  | .b => .inxB | .d => .inxD | .h => .inxH | .sp => .inxSp

/-- `DCX RP` (R94, R175). -/
def Instr.dcx : Pair → Instr
  | .b => .dcxB | .d => .dcxD | .h => .dcxH | .sp => .dcxSp

/-- `PUSH RP` and `PUSH PSW` (R94, R130, R131). -/
def Instr.push : StackPair → Instr
  | .b => .pushB | .d => .pushD | .h => .pushH | .psw => .pushPsw

/-- `POP RP` and `POP PSW` (R94, R132, R133). -/
def Instr.pop : StackPair → Instr
  | .b => .popB | .d => .popD | .h => .popH | .psw => .popPsw

/-- `STAX RP` (R94, R128). -/
def Instr.stax : IndirectPair → Instr
  | .b => .staxB | .d => .staxD

/-- `LDAX RP` (R94, R127). -/
def Instr.ldax : IndirectPair → Instr
  | .b => .ldaxB | .d => .ldaxD

/-- The conditional jumps (R95, R204 to R212). -/
def Instr.jumpIf : Cond → Word → Instr
  | .nz, adr => .jnz adr | .z, adr => .jz adr | .nc, adr => .jnc adr | .c, adr => .jc adr | .po, adr => .jpo adr
  | .pe, adr => .jpe adr | .p, adr => .jp adr | .m, adr => .jm adr

/-- The conditional calls (R95, R204, R213 to R220). -/
def Instr.callIf : Cond → Word → Instr
  | .nz, adr => .cnz adr | .z, adr => .cz adr | .nc, adr => .cnc adr | .c, adr => .cc adr | .po, adr => .cpo adr
  | .pe, adr => .cpe adr | .p, adr => .cp adr | .m, adr => .cm adr

/-- The conditional returns (R95, R204, R221 to R228). -/
def Instr.returnIf : Cond → Instr
  | .nz => .rnz | .z => .rz | .nc => .rnc | .c => .rc | .po => .rpo | .pe => .rpe | .p => .rp | .m => .rm

/-- `RST N` (R97, R229). -/
def Instr.rst (n : BitVec 3) : Instr :=
  match n.toNat with
  | 0 => .rst0 | 1 => .rst1 | 2 => .rst2 | 3 => .rst3 | 4 => .rst4 | 5 => .rst5 | 6 => .rst6 | _ => .rst7

/-! ## The codes of the fields -/

/-- The 8-bit operand with code `k` (R23, R93). -/
def operand8Of (k : Nat) : Operand8 :=
  match k with
  | 0 => .reg .b | 1 => .reg .c | 2 => .reg .d | 3 => .reg .e | 4 => .reg .h | 5 => .reg .l | 6 => .m | _ => .reg .a

/-- The pair with code `k` (R24, R94). -/
def pairOf (k : Nat) : Pair := match k with | 0 => .b | 1 => .d | 2 => .h | _ => .sp

/-- The pair with code `k` in PUSH and POP (R24, R94). -/
def stackPairOf (k : Nat) : StackPair := match k with | 0 => .b | 1 => .d | 2 => .h | _ => .psw

/-- The condition with code `k` (R95, R204). -/
def condOf (k : Nat) : Cond :=
  match k with
  | 0 => .nz | 1 => .z | 2 => .nc | 3 => .c | 4 => .po | 5 => .pe | 6 => .p | _ => .m

/-- The operation with code `k` (R99). -/
def aluOpOf (k : Nat) : AluOp :=
  match k with
  | 0 => .add | 1 => .adc | 2 => .sub | 3 => .sbb | 4 => .ana | 5 => .xra | 6 => .ora | _ => .cmp

/-! ## The four quadrants (R99) -/

/-- Quadrant 00 of R99. -/
def decodeQuadrant0 (op b2 b3 : Byte) : Instr :=
  let ddd := field53 op
  let rp := pairOf (field54 op)
  match field20 op with
  | 0 =>
    match ddd with
    | 0 => .nop | 1 => .reserved08 | 2 => .reserved10 | 3 => .reserved18 | 4 => .reserved20 | 5 => .reserved28
    | 6 => .reserved30 | _ => .reserved38
  | 1 => if ddd % 2 = 0 then Instr.lxi rp (cat b3 b2) else Instr.dad rp
  | 2 =>
    match ddd with
    | 0 => Instr.stax .b | 1 => Instr.ldax .b | 2 => Instr.stax .d | 3 => Instr.ldax .d | 4 => .shld (cat b3 b2)
    | 5 => .lhld (cat b3 b2) | 6 => .sta (cat b3 b2) | _ => .lda (cat b3 b2)
  | 3 => if ddd % 2 = 0 then Instr.inx rp else Instr.dcx rp
  | 4 => Instr.inr (operand8Of ddd)
  | 5 => Instr.dcr (operand8Of ddd)
  | 6 => Instr.mvi (operand8Of ddd) b2
  | _ =>
    match ddd with
    | 0 => .rlc | 1 => .rrc | 2 => .ral | 3 => .rar | 4 => .daa | 5 => .cma | 6 => .stc | _ => .cmc

/-- Quadrant 01 of R99: MOV, with HLT where `MOV M, M` would stand (R102). -/
def decodeQuadrant1 (op : Byte) : Instr :=
  match operand8Of (field53 op), operand8Of (field20 op) with
  | .reg r1, .reg r2 => Instr.movRR r1 r2
  | .reg r1, .m => Instr.movRM r1
  | .m, .reg r2 => Instr.movMR r2
  | .m, .m => .hlt

/-- Quadrant 10 of R99: arithmetic, logic and comparison with A. -/
def decodeQuadrant2 (op : Byte) : Instr := Instr.alu (aluOpOf (field53 op)) (operand8Of (field20 op))

/-- Quadrant 11 of R99. -/
def decodeQuadrant3 (op b2 b3 : Byte) : Instr :=
  let ddd := field53 op
  match field20 op with
  | 0 => Instr.returnIf (condOf ddd)
  | 1 =>
    match ddd with
    | 1 => .ret | 3 => .reservedD9 | 5 => .pchl | 7 => .sphl
    | _ => Instr.pop (stackPairOf (field54 op))
  | 2 => Instr.jumpIf (condOf ddd) (cat b3 b2)
  | 3 =>
    match ddd with
    | 0 => .jmp (cat b3 b2) | 1 => .reservedCB | 2 => .outPort b2 | 3 => .inPort b2 | 4 => .xthl | 5 => .xchg | 6 => .di
    | _ => .ei
  | 4 => Instr.callIf (condOf ddd) (cat b3 b2)
  | 5 =>
    match ddd with
    | 1 => .call (cat b3 b2) | 3 => .reservedDD | 5 => .reservedED | 7 => .reservedFD
    | _ => Instr.push (stackPairOf (field54 op))
  | 6 => Instr.aluImm (aluOpOf ddd) b2
  | _ => Instr.rst (BitVec.ofNat 3 ddd)

/-! ## The decoder -/

/-- The instruction that the first byte `op` and the operand bytes B2 and B3 are (R91, R99).  An instruction of one or
two bytes takes no notice of the operand bytes it does not have. -/
def decodeBytes (op b2 b3 : Byte) : Instr :=
  match quadrant op with
  | 0 => decodeQuadrant0 op b2 b3
  | 1 => decodeQuadrant1 op
  | 2 => decodeQuadrant2 op
  | _ => decodeQuadrant3 op b2 b3

/-- The length from the first byte alone, by the patterns of R98.  A reserved first byte has no length (R104); one byte is
fetched of it. -/
def instrLength (op : Byte) : Nat :=
  let ddd := field53 op
  match quadrant op, field20 op with
  | 0, 1 => if ddd % 2 = 0 then 3 else 1
  | 0, 2 => if 4 ≤ ddd then 3 else 1
  | 0, 6 => 2
  | 3, 2 => 3
  | 3, 3 => if ddd = 0 then 3 else if ddd = 2 ∨ ddd = 3 then 2 else 1
  | 3, 4 => 3
  | 3, 5 => if ddd = 1 then 3 else 1
  | 3, 6 => 2
  | _, _ => 1

/-- Why a sequence of bytes is no instruction. -/
inductive DecodeError
  /-- there is no first byte -/
  | noBytes
  /-- the first byte asks for operand bytes (R98) that are not there -/
  | operandMissing (op : Byte)
deriving DecidableEq, Repr

/-- The instruction at the head of `bytes`, and the bytes after it (R90, R98). -/
def decode (bytes : List Byte) : Except DecodeError (Instr × List Byte) :=
  match bytes with
  | [] => .error .noBytes
  | op :: rest =>
    match instrLength op, rest with
    | 2, b2 :: rest' => .ok (decodeBytes op b2 0, rest')
    | 3, b2 :: b3 :: rest' => .ok (decodeBytes op b2 b3, rest')
    | 1, rest' => .ok (decodeBytes op 0 0, rest')
    | _, _ => .error (.operandMissing op)

/-- The first three bytes of an instruction whose bits, numbered as the opcode table numbers them, are the low `nbits`
bits of `w`; every bit above them is 0.  The longest instruction has three bytes (R90). -/
def tableBytes (nbits w : Nat) : List Byte :=
  let v := w % 2 ^ nbits
  [BitVec.ofNat 8 v, BitVec.ofNat 8 (v / 256), BitVec.ofNat 8 (v / 65536)]

/-- The instruction the decoder reads from an instruction whose bits are `w`, numbered as the opcode table numbers them. -/
def decodeTableWord (nbits w : Nat) : Option Instr :=
  match decode (tableBytes nbits w) with
  | .ok (i, _) => some i
  | .error _ => none

/-! ## The encoder -/

/-- The bytes of an instruction, at ascending addresses (R90, R100): the first byte is its cell of Таблица 12, D8, N and
the low byte of D16 and ADR are B2, the high byte is B3 (R60, R96). -/
def encode : Instr → List Byte
  | .nop => [0x00] | .lxiB d16 => [0x01, lo d16, hi d16] | .staxB => [0x02] | .inxB => [0x03] | .inrB => [0x04]
  | .dcrB => [0x05] | .mviB d8 => [0x06, d8] | .rlc => [0x07] | .reserved08 => [0x08] | .dadB => [0x09]
  | .ldaxB => [0x0A] | .dcxB => [0x0B] | .inrC => [0x0C] | .dcrC => [0x0D] | .mviC d8 => [0x0E, d8]
  | .rrc => [0x0F] | .reserved10 => [0x10] | .lxiD d16 => [0x11, lo d16, hi d16] | .staxD => [0x12]
  | .inxD => [0x13] | .inrD => [0x14] | .dcrD => [0x15] | .mviD d8 => [0x16, d8] | .ral => [0x17]
  | .reserved18 => [0x18] | .dadD => [0x19] | .ldaxD => [0x1A] | .dcxD => [0x1B] | .inrE => [0x1C]
  | .dcrE => [0x1D] | .mviE d8 => [0x1E, d8] | .rar => [0x1F] | .reserved20 => [0x20]
  | .lxiH d16 => [0x21, lo d16, hi d16] | .shld adr => [0x22, lo adr, hi adr] | .inxH => [0x23] | .inrH => [0x24]
  | .dcrH => [0x25] | .mviH d8 => [0x26, d8] | .daa => [0x27] | .reserved28 => [0x28] | .dadH => [0x29]
  | .lhld adr => [0x2A, lo adr, hi adr] | .dcxH => [0x2B] | .inrL => [0x2C] | .dcrL => [0x2D]
  | .mviL d8 => [0x2E, d8] | .cma => [0x2F] | .reserved30 => [0x30] | .lxiSp d16 => [0x31, lo d16, hi d16]
  | .sta adr => [0x32, lo adr, hi adr] | .inxSp => [0x33] | .inrM => [0x34] | .dcrM => [0x35]
  | .mviM d8 => [0x36, d8] | .stc => [0x37] | .reserved38 => [0x38] | .dadSp => [0x39]
  | .lda adr => [0x3A, lo adr, hi adr] | .dcxSp => [0x3B] | .inrA => [0x3C] | .dcrA => [0x3D]
  | .mviA d8 => [0x3E, d8] | .cmc => [0x3F] | .movBB => [0x40] | .movBC => [0x41] | .movBD => [0x42]
  | .movBE => [0x43] | .movBH => [0x44] | .movBL => [0x45] | .movBM => [0x46] | .movBA => [0x47]
  | .movCB => [0x48] | .movCC => [0x49] | .movCD => [0x4A] | .movCE => [0x4B] | .movCH => [0x4C]
  | .movCL => [0x4D] | .movCM => [0x4E] | .movCA => [0x4F] | .movDB => [0x50] | .movDC => [0x51]
  | .movDD => [0x52] | .movDE => [0x53] | .movDH => [0x54] | .movDL => [0x55] | .movDM => [0x56]
  | .movDA => [0x57] | .movEB => [0x58] | .movEC => [0x59] | .movED => [0x5A] | .movEE => [0x5B]
  | .movEH => [0x5C] | .movEL => [0x5D] | .movEM => [0x5E] | .movEA => [0x5F] | .movHB => [0x60]
  | .movHC => [0x61] | .movHD => [0x62] | .movHE => [0x63] | .movHH => [0x64] | .movHL => [0x65]
  | .movHM => [0x66] | .movHA => [0x67] | .movLB => [0x68] | .movLC => [0x69] | .movLD => [0x6A]
  | .movLE => [0x6B] | .movLH => [0x6C] | .movLL => [0x6D] | .movLM => [0x6E] | .movLA => [0x6F]
  | .movMB => [0x70] | .movMC => [0x71] | .movMD => [0x72] | .movME => [0x73] | .movMH => [0x74]
  | .movML => [0x75] | .hlt => [0x76] | .movMA => [0x77] | .movAB => [0x78] | .movAC => [0x79] | .movAD => [0x7A]
  | .movAE => [0x7B] | .movAH => [0x7C] | .movAL => [0x7D] | .movAM => [0x7E] | .movAA => [0x7F] | .addB => [0x80]
  | .addC => [0x81] | .addD => [0x82] | .addE => [0x83] | .addH => [0x84] | .addL => [0x85] | .addM => [0x86]
  | .addA => [0x87] | .adcB => [0x88] | .adcC => [0x89] | .adcD => [0x8A] | .adcE => [0x8B] | .adcH => [0x8C]
  | .adcL => [0x8D] | .adcM => [0x8E] | .adcA => [0x8F] | .subB => [0x90] | .subC => [0x91] | .subD => [0x92]
  | .subE => [0x93] | .subH => [0x94] | .subL => [0x95] | .subM => [0x96] | .subA => [0x97] | .sbbB => [0x98]
  | .sbbC => [0x99] | .sbbD => [0x9A] | .sbbE => [0x9B] | .sbbH => [0x9C] | .sbbL => [0x9D] | .sbbM => [0x9E]
  | .sbbA => [0x9F] | .anaB => [0xA0] | .anaC => [0xA1] | .anaD => [0xA2] | .anaE => [0xA3] | .anaH => [0xA4]
  | .anaL => [0xA5] | .anaM => [0xA6] | .anaA => [0xA7] | .xraB => [0xA8] | .xraC => [0xA9] | .xraD => [0xAA]
  | .xraE => [0xAB] | .xraH => [0xAC] | .xraL => [0xAD] | .xraM => [0xAE] | .xraA => [0xAF] | .oraB => [0xB0]
  | .oraC => [0xB1] | .oraD => [0xB2] | .oraE => [0xB3] | .oraH => [0xB4] | .oraL => [0xB5] | .oraM => [0xB6]
  | .oraA => [0xB7] | .cmpB => [0xB8] | .cmpC => [0xB9] | .cmpD => [0xBA] | .cmpE => [0xBB] | .cmpH => [0xBC]
  | .cmpL => [0xBD] | .cmpM => [0xBE] | .cmpA => [0xBF] | .rnz => [0xC0] | .popB => [0xC1]
  | .jnz adr => [0xC2, lo adr, hi adr] | .jmp adr => [0xC3, lo adr, hi adr] | .cnz adr => [0xC4, lo adr, hi adr]
  | .pushB => [0xC5] | .adi d8 => [0xC6, d8] | .rst0 => [0xC7] | .rz => [0xC8] | .ret => [0xC9]
  | .jz adr => [0xCA, lo adr, hi adr] | .reservedCB => [0xCB] | .cz adr => [0xCC, lo adr, hi adr]
  | .call adr => [0xCD, lo adr, hi adr] | .aci d8 => [0xCE, d8] | .rst1 => [0xCF] | .rnc => [0xD0]
  | .popD => [0xD1] | .jnc adr => [0xD2, lo adr, hi adr] | .outPort port => [0xD3, port]
  | .cnc adr => [0xD4, lo adr, hi adr] | .pushD => [0xD5] | .sui d8 => [0xD6, d8] | .rst2 => [0xD7]
  | .rc => [0xD8] | .reservedD9 => [0xD9] | .jc adr => [0xDA, lo adr, hi adr] | .inPort port => [0xDB, port]
  | .cc adr => [0xDC, lo adr, hi adr] | .reservedDD => [0xDD] | .sbi d8 => [0xDE, d8] | .rst3 => [0xDF]
  | .rpo => [0xE0] | .popH => [0xE1] | .jpo adr => [0xE2, lo adr, hi adr] | .xthl => [0xE3]
  | .cpo adr => [0xE4, lo adr, hi adr] | .pushH => [0xE5] | .ani d8 => [0xE6, d8] | .rst4 => [0xE7]
  | .rpe => [0xE8] | .pchl => [0xE9] | .jpe adr => [0xEA, lo adr, hi adr] | .xchg => [0xEB]
  | .cpe adr => [0xEC, lo adr, hi adr] | .reservedED => [0xED] | .xri d8 => [0xEE, d8] | .rst5 => [0xEF]
  | .rp => [0xF0] | .popPsw => [0xF1] | .jp adr => [0xF2, lo adr, hi adr] | .di => [0xF3]
  | .cp adr => [0xF4, lo adr, hi adr] | .pushPsw => [0xF5] | .ori d8 => [0xF6, d8] | .rst6 => [0xF7]
  | .rm => [0xF8] | .sphl => [0xF9] | .jm adr => [0xFA, lo adr, hi adr] | .ei => [0xFB]
  | .cm adr => [0xFC, lo adr, hi adr] | .reservedFD => [0xFD] | .cpi d8 => [0xFE, d8] | .rst7 => [0xFF]

end Sys2Proof
end

