-- ==== Sys2Proof/Machine/Fetch.lean ====
section
/-! DEFINITION. Fetching an instruction's bytes (R92), and placing an instruction where it is fetched. -/

namespace Sys2Proof.Machine

/-- `fetch8()` (R10, R92): the byte at pc; pc goes on by one, modulo 2^16 (R27). -/
def State.fetch8 (s : State) : Except Fault (Byte × State) := do
  let v ← s.read s.pc
  .ok (v, s.setPc (s.pc + 1))

/-- `fetch16()` (R10, R96): two bytes from pc on, the low one first. -/
def State.fetch16 (s : State) : Except Fault (Word × State) := do
  let (low, t) ← s.fetch8
  let (high, u) ← t.fetch8
  .ok (cat high low, u)

/-- Fetches an operand byte if the instruction has one; else 00h stands for it and nothing is read (R92, R98). -/
def State.fetchIf (s : State) (present : Bool) : Except Fault (Byte × State) :=
  if present then s.fetch8 else .ok (0, s)

/-- The fetch of one instruction (R92): the first byte, then as many operand bytes as its length says; pc ends at the next
sequential instruction. -/
def State.fetchInstr (s : State) : Except Fault (Instr × State) := do
  let (op, t) ← s.fetch8
  let (b2, u) ← t.fetchIf (decide (2 ≤ instrLength op))
  let (b3, v) ← u.fetchIf (decide (3 ≤ instrLength op))
  .ok (decodeBytes op b2 b3, v)

/-- Lists `bytes` in memory from `addr` on, modulo 2^16, as a load from outside the machine does: whatever `MEMMAP` says,
the cells get content. -/
def State.placeBytes (s : State) (addr : Word) (bytes : List Byte) : State :=
  match bytes with
  | [] => s
  | v :: rest => (s.setMem (s.mem.write addr.toNat v)).placeBytes (addr + 1) rest

/-- Makes the cell at `addr` exist: where `MEMMAP` says absent, a region of ROM holds it. -/
def State.withCell (s : State) (addr : Word) : State :=
  match s.kind addr with
  | .absent => { s with params := { s.params with memmap := ⟨addr.toNat, addr.toNat, .rom⟩ :: s.params.memmap } }
  | .ram | .rom => s

/-- Lets nothing be asserted at the coming recognition point; the later ones stay as scheduled. -/
def State.quietNow (s : State) : State :=
  if s.sample = Signals.quiet then s else { s with signals := Signals.quiet :: s.signals }

end Sys2Proof.Machine
end

