-- ==== Sys2Proof/Machine/Reserved.lean ====
section
/-! DEFINITION. The twelve first bytes with no instruction (R104): executing one does what `UNDOC_OPCODES` says, by default
the model fault of R251 (log entry 17). -/

namespace Sys2Proof.Machine

/-- What `UNDOC_OPCODES` says the byte `op` does: its first entry, `fault` where it has none (R7, R104). -/
def undocEffect (table : List (Byte × UndocEffect)) (op : Byte) : UndocEffect :=
  match table with
  | [] => .fault
  | (byte, x) :: rest => if byte = op then x else undocEffect rest op

/-- Executing the reserved first byte `op` (R104, U1): by default `raise ReservedOpcode(op)` (R251).  A reserved byte has no
length (R98), so the fetch takes it alone and an effect with an address fetches the address itself. -/
def reservedByte (op : Byte) (s : State) : Out :=
  match undocEffect s.params.undocOpcodes op with
  | .fault => .fault (.reservedOpcode op)
  | .nop => .next s
  | .jump => outcome do
    let (target, t) ← s.fetch16
    .ok (t.setPc target)
  | .call => outcome do
    let (target, t) ← s.fetch16
    t.callTo target
  | .ret => outcome s.returnToCaller

/-- First byte 08h: no instruction is assigned (R104; log entry 17). -/
def execReserved08 (s : State) : Out := reservedByte 0x08 s

/-- First byte 10h: no instruction is assigned (R104; log entry 17). -/
def execReserved10 (s : State) : Out := reservedByte 0x10 s

/-- First byte 18h: no instruction is assigned (R104; log entry 17). -/
def execReserved18 (s : State) : Out := reservedByte 0x18 s

/-- First byte 20h: no instruction is assigned (R104; log entry 17). -/
def execReserved20 (s : State) : Out := reservedByte 0x20 s

/-- First byte 28h: no instruction is assigned (R104; log entry 17). -/
def execReserved28 (s : State) : Out := reservedByte 0x28 s

/-- First byte 30h: no instruction is assigned (R104; log entry 17). -/
def execReserved30 (s : State) : Out := reservedByte 0x30 s

/-- First byte 38h: no instruction is assigned (R104; log entry 17). -/
def execReserved38 (s : State) : Out := reservedByte 0x38 s

/-- First byte CBh: no instruction is assigned (R104; log entry 17). -/
def execReservedCB (s : State) : Out := reservedByte 0xCB s

/-- First byte D9h: no instruction is assigned (R104; log entry 17). -/
def execReservedD9 (s : State) : Out := reservedByte 0xD9 s

/-- First byte DDh: no instruction is assigned (R104; log entry 17). -/
def execReservedDD (s : State) : Out := reservedByte 0xDD s

/-- First byte EDh: no instruction is assigned (R104; log entry 17). -/
def execReservedED (s : State) : Out := reservedByte 0xED s

/-- First byte FDh: no instruction is assigned (R104; log entry 17). -/
def execReservedFD (s : State) : Out := reservedByte 0xFD s

end Sys2Proof.Machine
end

