-- ==== Sys2Proof/Machine/Rotate.lean ====
section
/-! DEFINITION. The rotates and the special accumulator and carry instructions (R190 to R197).  They write c at most: the
source gives z, s, p and ac no change (log entry 24). -/

namespace Sys2Proof.Machine

/-- `f.c <- v`; the other four flags stay (R195, R196). -/
def State.setCarry (s : State) (v : Bool) : State := s.setFlags { s.f with c := v }

/-- What the four rotates write: A, and the bit moved out to c (R190 to R193). -/
def State.rotateTo (s : State) (r : Byte) (out : Bool) : State := (s.setReg .a r).setCarry out

/-- `RLC` (07h, R190). A[6:0] over the bit moved out. -/
def execRlc (s : State) : Out :=
  .next (s.rotateTo (s.a.extractLsb' 0 7 ++ BitVec.ofBool s.a.msb) s.a.msb)

/-- `RRC` (0Fh, R191). The bit moved out over A[7:1]. -/
def execRrc (s : State) : Out :=
  .next (s.rotateTo (BitVec.ofBool (s.a.getLsbD 0) ++ s.a.extractLsb' 1 7) (s.a.getLsbD 0))

/-- `RAL` (17h, R192). The 9-bit word (c, A) moves left: old c enters D0. -/
def execRal (s : State) : Out :=
  .next (s.rotateTo (s.a.extractLsb' 0 7 ++ BitVec.ofBool s.f.c) s.a.msb)

/-- `RAR` (1Fh, R193). The 9-bit word (c, A) moves right: old c enters D7. -/
def execRar (s : State) : Out :=
  .next (s.rotateTo (BitVec.ofBool s.f.c ++ s.a.extractLsb' 1 7) (s.a.getLsbD 0))

/-- `CMA` (2Fh, R194). No flag changes (R197; log entry 24). -/
def execCma (s : State) : Out := .next (s.setReg .a (~~~s.a))

/-- `STC` (37h, R195). Only c changes (R197; log entry 24). -/
def execStc (s : State) : Out := .next (s.setCarry true)

/-- `CMC` (3Fh, R196). Only c changes (R197; log entry 24). -/
def execCmc (s : State) : Out := .next (s.setCarry (!s.f.c))

end Sys2Proof.Machine
end

