-- ==== Sys2Proof/Machine/Transfer.lean ====
section
/-! DEFINITION. The transfer and load instructions (R120 to R140): first what the instructions of one shape share, then one
meaning for each row of the table.  In every meaning the instruction's bytes have been fetched and pc addresses the next
instruction (R92).  Only POP PSW writes a flag (R140). -/

namespace Sys2Proof.Machine

/-- `x[ddd] <- x[sss]` (R120). -/
def moveReg (dst src : Reg) (s : State) : Out := .next (s.setReg dst (s.reg src))

/-- `x[ddd] <- MemRead(HL, 1)` (R121). -/
def loadReg (dst : Reg) (s : State) : Out :=
  outcome do
    let v ← s.read s.hl
    .ok (s.setReg dst v)

/-- `MemWrite(HL, 1, x[sss])` (R122). -/
def storeReg (src : Reg) (s : State) : Out := outcome (s.write s.hl (s.reg src))

/-- MVI: B2 to a register (R123) or to the memory byte at HL (R124). -/
def moveImm (dst : Operand8) (v : Byte) (s : State) : Out := outcome (s.wr8 dst v)

/-- `A <- MemRead(rp[r], 1)` (R127). -/
def loadIndirect (r : IndirectPair) (s : State) : Out :=
  outcome do
    let v ← s.read (s.indirect r)
    .ok (s.setReg .a v)

/-- `MemWrite(rp[r], 1, A)` (R128). -/
def storeIndirect (r : IndirectPair) (s : State) : Out := outcome (s.write (s.indirect r) s.a)

/-- `rp[k] <- cat(B3, B2)` (R129). -/
def loadPairImm (r : Pair) (v : Word) (s : State) : Out := .next (s.setPair r v)

/-- PUSH (R130, R131): the pair goes to the stack. -/
def pushPair (r : StackPair) (s : State) : Out := outcome (s.push16 (s.stackPair r))

/-- POP (R132, R133): the pair comes from the stack; POP PSW also loads the flags. -/
def popPair (r : StackPair) (s : State) : Out :=
  outcome do
    let (v, t) ← s.pop16
    .ok (t.setStackPair r v)

/-- `LXI B,D16` (01h, R129). -/
def execLxiB (d16 : Word) (s : State) : Out := loadPairImm .b d16 s

/-- `STAX B` (02h, R128). -/
def execStaxB (s : State) : Out := storeIndirect .b s

/-- `MVI B,D8` (06h, R123). -/
def execMviB (d8 : Byte) (s : State) : Out := moveImm (.reg .b) d8 s

/-- `LDAX B` (0Ah, R127). -/
def execLdaxB (s : State) : Out := loadIndirect .b s

/-- `MVI C,D8` (0Eh, R123). -/
def execMviC (d8 : Byte) (s : State) : Out := moveImm (.reg .c) d8 s

/-- `LXI D,D16` (11h, R129). -/
def execLxiD (d16 : Word) (s : State) : Out := loadPairImm .d d16 s

/-- `STAX D` (12h, R128). -/
def execStaxD (s : State) : Out := storeIndirect .d s

/-- `MVI D,D8` (16h, R123). -/
def execMviD (d8 : Byte) (s : State) : Out := moveImm (.reg .d) d8 s

/-- `LDAX D` (1Ah, R127). -/
def execLdaxD (s : State) : Out := loadIndirect .d s

/-- `MVI E,D8` (1Eh, R123). -/
def execMviE (d8 : Byte) (s : State) : Out := moveImm (.reg .e) d8 s

/-- `LXI H,D16` (21h, R129). -/
def execLxiH (d16 : Word) (s : State) : Out := loadPairImm .h d16 s

/-- `SHLD ADR` (22h, R135). L to ADR, then H to ADR + 1 (R61, R79). -/
def execShld (adr : Word) (s : State) : Out :=
  outcome do
    let t ← s.write adr s.l
    t.write (adr + 1) s.h

/-- `MVI H,D8` (26h, R123). -/
def execMviH (d8 : Byte) (s : State) : Out := moveImm (.reg .h) d8 s

/-- `LHLD ADR` (2Ah, R134). L from ADR, then H from ADR + 1 (R61, R79). -/
def execLhld (adr : Word) (s : State) : Out :=
  outcome do
    let low ← s.read adr
    let high ← s.read (adr + 1)
    .ok (s.setHl (cat high low))

/-- `MVI L,D8` (2Eh, R123). -/
def execMviL (d8 : Byte) (s : State) : Out := moveImm (.reg .l) d8 s

/-- `LXI SP,D16` (31h, R129). -/
def execLxiSp (d16 : Word) (s : State) : Out := loadPairImm .sp d16 s

/-- `STA ADR` (32h, R126). -/
def execSta (adr : Word) (s : State) : Out := outcome (s.write adr s.a)

/-- `MVI M,D8` (36h, R124). -/
def execMviM (d8 : Byte) (s : State) : Out := moveImm .m d8 s

/-- `LDA ADR` (3Ah, R125). -/
def execLda (adr : Word) (s : State) : Out :=
  outcome do
    let v ← s.read adr
    .ok (s.setReg .a v)

/-- `MVI A,D8` (3Eh, R123). -/
def execMviA (d8 : Byte) (s : State) : Out := moveImm (.reg .a) d8 s

/-- `MOV B,B` (40h, R120). -/
def execMovBB (s : State) : Out := moveReg .b .b s

/-- `MOV B,C` (41h, R120). -/
def execMovBC (s : State) : Out := moveReg .b .c s

/-- `MOV B,D` (42h, R120). -/
def execMovBD (s : State) : Out := moveReg .b .d s

/-- `MOV B,E` (43h, R120). -/
def execMovBE (s : State) : Out := moveReg .b .e s

/-- `MOV B,H` (44h, R120). -/
def execMovBH (s : State) : Out := moveReg .b .h s

/-- `MOV B,L` (45h, R120). -/
def execMovBL (s : State) : Out := moveReg .b .l s

/-- `MOV B,M` (46h, R121). -/
def execMovBM (s : State) : Out := loadReg .b s

/-- `MOV B,A` (47h, R120). -/
def execMovBA (s : State) : Out := moveReg .b .a s

/-- `MOV C,B` (48h, R120). -/
def execMovCB (s : State) : Out := moveReg .c .b s

/-- `MOV C,C` (49h, R120). -/
def execMovCC (s : State) : Out := moveReg .c .c s

/-- `MOV C,D` (4Ah, R120). -/
def execMovCD (s : State) : Out := moveReg .c .d s

/-- `MOV C,E` (4Bh, R120). -/
def execMovCE (s : State) : Out := moveReg .c .e s

/-- `MOV C,H` (4Ch, R120). -/
def execMovCH (s : State) : Out := moveReg .c .h s

/-- `MOV C,L` (4Dh, R120). -/
def execMovCL (s : State) : Out := moveReg .c .l s

/-- `MOV C,M` (4Eh, R121). -/
def execMovCM (s : State) : Out := loadReg .c s

/-- `MOV C,A` (4Fh, R120). -/
def execMovCA (s : State) : Out := moveReg .c .a s

/-- `MOV D,B` (50h, R120). -/
def execMovDB (s : State) : Out := moveReg .d .b s

/-- `MOV D,C` (51h, R120). -/
def execMovDC (s : State) : Out := moveReg .d .c s

/-- `MOV D,D` (52h, R120). -/
def execMovDD (s : State) : Out := moveReg .d .d s

/-- `MOV D,E` (53h, R120). -/
def execMovDE (s : State) : Out := moveReg .d .e s

/-- `MOV D,H` (54h, R120). -/
def execMovDH (s : State) : Out := moveReg .d .h s

/-- `MOV D,L` (55h, R120). -/
def execMovDL (s : State) : Out := moveReg .d .l s

/-- `MOV D,M` (56h, R121). -/
def execMovDM (s : State) : Out := loadReg .d s

/-- `MOV D,A` (57h, R120). -/
def execMovDA (s : State) : Out := moveReg .d .a s

/-- `MOV E,B` (58h, R120). -/
def execMovEB (s : State) : Out := moveReg .e .b s

/-- `MOV E,C` (59h, R120). -/
def execMovEC (s : State) : Out := moveReg .e .c s

/-- `MOV E,D` (5Ah, R120). -/
def execMovED (s : State) : Out := moveReg .e .d s

/-- `MOV E,E` (5Bh, R120). -/
def execMovEE (s : State) : Out := moveReg .e .e s

/-- `MOV E,H` (5Ch, R120). -/
def execMovEH (s : State) : Out := moveReg .e .h s

/-- `MOV E,L` (5Dh, R120). -/
def execMovEL (s : State) : Out := moveReg .e .l s

/-- `MOV E,M` (5Eh, R121). -/
def execMovEM (s : State) : Out := loadReg .e s

/-- `MOV E,A` (5Fh, R120). -/
def execMovEA (s : State) : Out := moveReg .e .a s

/-- `MOV H,B` (60h, R120). -/
def execMovHB (s : State) : Out := moveReg .h .b s

/-- `MOV H,C` (61h, R120). -/
def execMovHC (s : State) : Out := moveReg .h .c s

/-- `MOV H,D` (62h, R120). -/
def execMovHD (s : State) : Out := moveReg .h .d s

/-- `MOV H,E` (63h, R120). -/
def execMovHE (s : State) : Out := moveReg .h .e s

/-- `MOV H,H` (64h, R120). -/
def execMovHH (s : State) : Out := moveReg .h .h s

/-- `MOV H,L` (65h, R120). -/
def execMovHL (s : State) : Out := moveReg .h .l s

/-- `MOV H,M` (66h, R121). -/
def execMovHM (s : State) : Out := loadReg .h s

/-- `MOV H,A` (67h, R120). -/
def execMovHA (s : State) : Out := moveReg .h .a s

/-- `MOV L,B` (68h, R120). -/
def execMovLB (s : State) : Out := moveReg .l .b s

/-- `MOV L,C` (69h, R120). -/
def execMovLC (s : State) : Out := moveReg .l .c s

/-- `MOV L,D` (6Ah, R120). -/
def execMovLD (s : State) : Out := moveReg .l .d s

/-- `MOV L,E` (6Bh, R120). -/
def execMovLE (s : State) : Out := moveReg .l .e s

/-- `MOV L,H` (6Ch, R120). -/
def execMovLH (s : State) : Out := moveReg .l .h s

/-- `MOV L,L` (6Dh, R120). -/
def execMovLL (s : State) : Out := moveReg .l .l s

/-- `MOV L,M` (6Eh, R121). -/
def execMovLM (s : State) : Out := loadReg .l s

/-- `MOV L,A` (6Fh, R120). -/
def execMovLA (s : State) : Out := moveReg .l .a s

/-- `MOV M,B` (70h, R122). -/
def execMovMB (s : State) : Out := storeReg .b s

/-- `MOV M,C` (71h, R122). -/
def execMovMC (s : State) : Out := storeReg .c s

/-- `MOV M,D` (72h, R122). -/
def execMovMD (s : State) : Out := storeReg .d s

/-- `MOV M,E` (73h, R122). -/
def execMovME (s : State) : Out := storeReg .e s

/-- `MOV M,H` (74h, R122). -/
def execMovMH (s : State) : Out := storeReg .h s

/-- `MOV M,L` (75h, R122). -/
def execMovML (s : State) : Out := storeReg .l s

/-- `MOV M,A` (77h, R122). -/
def execMovMA (s : State) : Out := storeReg .a s

/-- `MOV A,B` (78h, R120). -/
def execMovAB (s : State) : Out := moveReg .a .b s

/-- `MOV A,C` (79h, R120). -/
def execMovAC (s : State) : Out := moveReg .a .c s

/-- `MOV A,D` (7Ah, R120). -/
def execMovAD (s : State) : Out := moveReg .a .d s

/-- `MOV A,E` (7Bh, R120). -/
def execMovAE (s : State) : Out := moveReg .a .e s

/-- `MOV A,H` (7Ch, R120). -/
def execMovAH (s : State) : Out := moveReg .a .h s

/-- `MOV A,L` (7Dh, R120). -/
def execMovAL (s : State) : Out := moveReg .a .l s

/-- `MOV A,M` (7Eh, R121). -/
def execMovAM (s : State) : Out := loadReg .a s

/-- `MOV A,A` (7Fh, R120). -/
def execMovAA (s : State) : Out := moveReg .a .a s

/-- `POP B` (C1h, R132). -/
def execPopB (s : State) : Out := popPair .b s

/-- `PUSH B` (C5h, R130). -/
def execPushB (s : State) : Out := pushPair .b s

/-- `POP D` (D1h, R132). -/
def execPopD (s : State) : Out := popPair .d s

/-- `PUSH D` (D5h, R130). -/
def execPushD (s : State) : Out := pushPair .d s

/-- `POP H` (E1h, R132). -/
def execPopH (s : State) : Out := popPair .h s

/-- `XTHL` (E3h, R139). Reads before it writes, in the order of R79. -/
def execXthl (s : State) : Out :=
  outcome do
    let low ← s.read s.sp
    let high ← s.read (s.sp + 1)
    let t ← s.write (s.sp + 1) s.h
    let u ← t.write s.sp s.l
    .ok (u.setHl (cat high low))

/-- `PUSH H` (E5h, R130). -/
def execPushH (s : State) : Out := pushPair .h s

/-- `PCHL` (E9h, R137). An indirect jump; nothing is pushed. -/
def execPchl (s : State) : Out := .next (s.setPc s.hl)

/-- `XCHG` (EBh, R138). -/
def execXchg (s : State) : Out := .next ((s.setHl s.de).setDe s.hl)

/-- `POP PSW` (F1h, R133). -/
def execPopPsw (s : State) : Out := popPair .psw s

/-- `PUSH PSW` (F5h, R131). -/
def execPushPsw (s : State) : Out := pushPair .psw s

/-- `SPHL` (F9h, R136). -/
def execSphl (s : State) : Out := .next (s.setSp s.hl)

end Sys2Proof.Machine
end

