-- ==== Sys2Proof/Machine/Cycle.lean ====
section
/-! DEFINITION. One step of the machine: the recognition point and what follows it (R254, R258). -/

namespace Sys2Proof.Machine

/-- Fetches and executes one instruction (R92).  While it runs, the mark that the last instruction was EI is down; EI puts
it up again (R254). -/
def runInstr (s : State) : Out :=
  match s.fetchInstr with
  | .ok (i, t) => exec i (t.setJustEi false)
  | .error f => .fault f

/-- What an accepted request does (R255, R256): interrupt entry with the supplied `RST N`; a byte that is no RST is refused
(log entry 18). -/
def acceptRequest (byte : Byte) (s : State) : Out :=
  match restartNumber byte with
  | some n => outcome (s.takeInterrupt n)
  | none => .refused (.suppliedNotRst byte)

/-- Without a request: the next instruction, or the halt goes on with every register kept (R245, R254). -/
def continueRun (s : State) : Out := if s.halted then .next s else runInstr s

/-- One step (R254, R258): the sample of this recognition point is taken; reset wins over everything, an accepted interrupt
over the fetch of the next instruction. -/
def cycle (s : State) : Out :=
  let sig := s.sample
  let t := s.dropSample
  if sig.resetLine then .next t.resetEvent
  else
    match sig.intr with
    | some byte => if t.accepts then acceptRequest byte t else continueRun t
    | none => continueRun t

end Sys2Proof.Machine
end

