-- ==== Sys2Proof/Machine/Step.lean ====
section
/-! DEFINITION. The step, and the state that fetches a given instruction next. -/

namespace Sys2Proof.Machine

/-- One step of the machine: one recognition point and what follows it (R254). -/
def step (s : State) : Host.Outcome State Fault Refusal := cycle s

/-- `s` with the instruction whose bits are the low `nbits` bits of `w` stored at pc, so that the next step fetches and runs
it: its three bytes are placed, their cells exist, nothing is asserted at the coming recognition point, and the processor is
not halted (log entry 21). -/
def State.withFetchWord (s : State) (nbits w : Nat) : State :=
  ((((s.withCell s.pc).withCell (s.pc + 1)).withCell (s.pc + 2)).placeBytes s.pc (tableBytes nbits w)).quietNow.setHalted false

end Sys2Proof.Machine
end

