-- ==== Sys2Proof/Safety.lean ====
section
/-! DEFINITION. What counts as a safe run, in the terms the statements use. -/

namespace Sys2Proof.Machine

/-- The invariant of every state the machine should be in: memory in its canonical form. -/
def State.Inv (s : State) : Prop := s.mem.wf = true

/-- The memory byte at `addr` can be written (R67). -/
def State.Writable (s : State) (addr : Word) : Prop := s.kind addr = .ram

/-- The end of a run by HLT (R288 (b)): halted with interrupts disabled and no reset to come. -/
def State.Terminated (s : State) : Prop :=
  s.halted = true ∧ s.inte = false ∧ ∀ sig ∈ s.signals, sig.resetLine = false

/-- A run of `k` steps from `s` stops neither with a fault nor with a refusal. -/
def SafeFor (k : Nat) (s : State) : Prop := ∃ t, Sys2Proof.core.run k s = .next t

end Sys2Proof.Machine
end

