-- ==== Sys2Proof/Certificates/Slice0/Obligations.lean ====
section
/-! DEFINITION. The statements for the provers.  A state equation `exec i s = .next { s with … }` gives the result and the
whole frame at once: what it does not name is unchanged.  Where an instruction stores, the statement says that all but memory
is as named (`SameButMem`) and what every address reads afterwards (`Stored1`, `Stored2`).  Codes, flags and sums are written
here in the spec's numbers, apart from the model's own functions for them. -/

open Sys2Proof Sys2Proof.Machine

namespace Sys2Proof.Vocabulary

/-- The byte with number `n` modulo 256. -/
def byte (n : Nat) : Byte := BitVec.ofNat 8 n

/-- The number of a register in the encoding (R23). -/
def regCode : Reg → Nat
  | .b => 0 | .c => 1 | .d => 2 | .e => 3 | .h => 4 | .l => 5 | .a => 7

/-- The number of an 8-bit operand (R23); M is 6. -/
def operandCode : Operand8 → Nat
  | .reg r => regCode r
  | .m => 6

/-- The number of a pair (R24). -/
def pairCode : Pair → Nat
  | .b => 0 | .d => 1 | .h => 2 | .sp => 3

/-- The number of a condition (R95). -/
def condCode : Cond → Nat
  | .nz => 0 | .z => 1 | .nc => 2 | .c => 3 | .po => 4 | .pe => 5 | .p => 6 | .m => 7

/-- The table of R204. -/
def condTrue : Cond → Flags → Prop
  | .nz, f => f.z = false
  | .z, f => f.z = true
  | .nc, f => f.c = false
  | .c, f => f.c = true
  | .po, f => f.p = false
  | .pe, f => f.p = true
  | .p, f => f.s = false
  | .m, f => f.s = true

/-- How many bits of a byte are 1 (R35). -/
def ones (v : Byte) : Nat := ((List.range 8).filter fun i => v.toNat / 2 ^ i % 2 = 1).length

/-- The flags of the result `r` with carry `c` and auxiliary carry `ac` (R32, R33, R35). -/
def resultFlags (r : Byte) (c ac : Bool) : Flags :=
  { z := decide (r = 0), s := decide (128 ≤ r.toNat), p := decide (ones r % 2 = 0), ac := ac, c := c }

/-- The state after A takes the sum of A, `v` and the carry `k`, with all five flags (R37). -/
def sumState (s : State) (v : Byte) (k : Nat) : State :=
  let r := byte (s.a.toNat + v.toNat + k)
  { s with
    a := r
    f := resultFlags r (decide (255 < s.a.toNat + v.toNat + k)) (decide (15 < s.a.toNat % 16 + v.toNat % 16 + k)) }

/-- The byte `a - v - k` modulo 256 (R38). -/
def differenceByte (a v : Byte) (k : Nat) : Byte := byte (512 + a.toNat - v.toNat - k)

/-- `SUB_AC(a, v, k)` (R38): by default 1 when the low group needs no borrow. -/
def borrowAc (p : Params) (a v : Byte) (k : Bool) : Bool :=
  match p.subAc with
  | .carryOut => decide (v.toNat % 16 + k.toNat ≤ a.toNat % 16)
  | .uninterpreted => Config.subAc a v k

/-- The flags after `a - v - k` (R38): the carry is the borrow. -/
def differenceFlags (p : Params) (a v : Byte) (k : Bool) : Flags :=
  resultFlags (differenceByte a v k.toNat) (decide (a.toNat < v.toNat + k.toNat)) (borrowAc p a v k)

/-- The state after A takes the difference of A, `v` and the borrow `k`, with all five flags (R38). -/
def differenceState (s : State) (v : Byte) (k : Bool) : State :=
  { s with a := differenceByte s.a v k.toNat, f := differenceFlags s.params s.a v k }

/-- `t` is `u` but for memory. -/
def SameButMem (t u : State) : Prop := { t with mem := u.mem } = u

/-- Every address reads in `t` as in `s`, but `x` reads `v`. -/
def Stored1 (s t : State) (x : Word) (v : Byte) : Prop :=
  ∀ y, t.read y = if y = x then .ok v else s.read y

/-- Every address reads in `t` as in `s`, but `x` reads `v` and `x'` reads `v'`. -/
def Stored2 (s t : State) (x : Word) (v : Byte) (x' : Word) (v' : Byte) : Prop :=
  ∀ y, t.read y = if y = x then .ok v else if y = x' then .ok v' else s.read y

/-- The outcome `o` in `s` is that of pushing the bytes `h` and `l` (R28): with both cells RAM a next state that is what `u`
says but for memory; else the fault of the store, the high byte's first. -/
def Pushes (o : Out) (s : State) (h l : Byte) (u : State) : Prop :=
  (s.Writable (s.sp - 1) → s.Writable (s.sp - 2) →
    ∃ t, o = .next t ∧ SameButMem t u ∧ Stored2 s t (s.sp - 1) h (s.sp - 2) l) ∧
  (∀ e, s.write (s.sp - 1) h = .error e → o = .fault e) ∧
  (∀ w e, s.write (s.sp - 1) h = .ok w → w.write (s.sp - 2) l = .error e → o = .fault e)

/-- The instruction `i`, run in `s`, pushes the bytes `h` and `l` and leaves what `u` says but for memory. -/
def PushesTo (i : Instr) (s : State) (h l : Byte) (u : State) : Prop := Pushes (exec i s) s h l u

/-- The instruction `i`, run in `s`, pops two bytes and leaves `u high low` (R29); a read that faults is the instruction's
fault, the low byte's first. -/
def PopsTo (i : Instr) (s : State) (u : (high low : Byte) → State) : Prop :=
  (∀ high low, s.read s.sp = .ok low → s.read (s.sp + 1) = .ok high → exec i s = .next (u high low)) ∧
  (∀ e, s.read s.sp = .error e → exec i s = .fault e) ∧
  (∀ low e, s.read s.sp = .ok low → s.read (s.sp + 1) = .error e → exec i s = .fault e)

/-- The instruction `i`, run in `s`, fetches an address from pc on, the low byte first (R96), and then `P` holds of the
address; a fetch that faults is the instruction's fault. -/
def OnAddress (i : Instr) (s : State) (P : Word → Prop) : Prop :=
  (∀ high low, s.read s.pc = .ok low → s.read (s.pc + 1) = .ok high → P (cat high low)) ∧
  (∀ e, s.read s.pc = .error e → exec i s = .fault e) ∧
  (∀ low e, s.read s.pc = .ok low → s.read (s.pc + 1) = .error e → exec i s = .fault e)

/-- The first bytes whose instructions write a flag (R39): quadrant 10, the immediate column, INR, DCR, DAD, DAA, the
rotates, STC, CMC, and POP PSW. -/
def FlagWriter (op : Nat) : Prop :=
  op / 64 = 2 ∨ (op / 64 = 3 ∧ op % 8 = 6) ∨ (op / 64 = 0 ∧ (op % 8 = 4 ∨ op % 8 = 5)) ∨ (op / 64 = 0 ∧ op % 16 = 9) ∨
    (op / 64 = 0 ∧ op % 8 = 7 ∧ op ≠ 0x2F) ∨ op = 0xF1

/-- The byte is two decimal digits (R177). -/
def Packed (v : Byte) : Prop := v.toNat % 16 < 10 ∧ v.toNat / 16 < 10

/-- The number that two decimal digits stand for (R177). -/
def decimal (v : Byte) : Nat := 10 * (v.toNat / 16) + v.toNat % 16

end Sys2Proof.Vocabulary

open Sys2Proof.Vocabulary

/-! ## Registers, operands, memory -/

/-- R24, and the primitives `x[i]`, `rp[k]`, `rd8` of R10: a register reads what was written to it and the others keep their
content; a pair is its high register over its low one. -/
def Obligations.RegistersPairsAndOperandForms : Prop :=
  ∀ s : State,
    (s.reg .a = s.a ∧ s.reg .b = s.b ∧ s.reg .c = s.c ∧ s.reg .d = s.d ∧ s.reg .e = s.e ∧ s.reg .h = s.h ∧ s.reg .l = s.l) ∧
    (∀ r v q, (s.setReg r v).reg q = if q = r then v else s.reg q) ∧
    (∀ r v, { s.setReg r v with a := s.a, b := s.b, c := s.c, d := s.d, e := s.e, h := s.h, l := s.l } = s) ∧
    ((s.pair .b).toNat = 256 * s.b.toNat + s.c.toNat ∧ (s.pair .d).toNat = 256 * s.d.toNat + s.e.toNat ∧
      (s.pair .h).toNat = 256 * s.h.toNat + s.l.toNat ∧ s.pair .sp = s.sp) ∧
    (s.hl = s.pair .h ∧ s.indirect .b = s.pair .b ∧ s.indirect .d = s.pair .d) ∧
    (∀ r, s.rd8 (.reg r) = .ok (s.reg r)) ∧ s.rd8 .m = s.read s.hl

/-- R66, R67 and the memory rows of R251: a write to RAM replaces one byte and nothing else; ROM takes no write; an absent
cell takes no access; a cell without content has no value.  The faults are the spec's decision D14 (log entries 4, 5, 6). -/
def Obligations.MemoryReadsAndWrites : Prop :=
  ∀ (s : State) (x : Word) (v : Byte),
    (s.kind x = .ram → ∃ t, s.write x v = .ok t ∧ SameButMem t s ∧ Stored1 s t x v) ∧
    (s.kind x = .rom → s.write x v = .error (.writeToNonRam x)) ∧
    (s.kind x = .absent → s.write x v = .error (.absentMemory x) ∧ s.read x = .error (.absentMemory x)) ∧
    (s.kind x ≠ .absent → s.mem.read x.toNat = none → s.read x = .error (.unwrittenRead x)) ∧
    (∀ w, s.kind x ≠ .absent → s.mem.read x.toNat = some w → s.read x = .ok w)

/-! ## Transfer and load -/

/-- R120: the 49 register-to-register forms of MOV; no register is ever unwritten, the model's choice (log entry 1). -/
def Obligations.MovCopiesRegister : Prop :=
  ∀ (s : State) (dst src : Reg),
    encode (Instr.movRR dst src) = [byte (0x40 + 8 * regCode dst + regCode src)] ∧
    exec (Instr.movRR dst src) s = .next (s.setReg dst (s.reg src))

/-- R121: `MOV R, M`, with the old HL, and its memory faults. -/
def Obligations.MovLoadsFromMemory : Prop :=
  ∀ (s : State) (dst : Reg),
    encode (Instr.movRM dst) = [byte (0x46 + 8 * regCode dst)] ∧
    (∀ v, s.read s.hl = .ok v → exec (Instr.movRM dst) s = .next (s.setReg dst v)) ∧
    (∀ e, s.read s.hl = .error e → exec (Instr.movRM dst) s = .fault e)

/-- R122: `MOV M, R`, and its memory faults. -/
def Obligations.MovStoresToMemory : Prop :=
  ∀ (s : State) (src : Reg),
    encode (Instr.movMR src) = [byte (0x70 + regCode src)] ∧
    (s.Writable s.hl → ∃ t, exec (Instr.movMR src) s = .next t ∧ SameButMem t s ∧ Stored1 s t s.hl (s.reg src)) ∧
    (∀ e, s.write s.hl (s.reg src) = .error e → exec (Instr.movMR src) s = .fault e)

/-- R123, R124: MVI to each register and to M. -/
def Obligations.MviWritesImmediate : Prop :=
  ∀ (s : State) (v : Byte),
    (∀ r, encode (Instr.mvi (.reg r) v) = [byte (6 + 8 * regCode r), v] ∧
      exec (Instr.mvi (.reg r) v) s = .next (s.setReg r v)) ∧
    encode (Instr.mvi .m v) = [0x36, v] ∧
    (s.Writable s.hl → ∃ t, exec (Instr.mvi .m v) s = .next t ∧ SameButMem t s ∧ Stored1 s t s.hl v) ∧
    (∀ e, s.write s.hl v = .error e → exec (Instr.mvi .m v) s = .fault e)

/-- R125, R127: LDA and LDAX load A from ADR, BC or DE. -/
def Obligations.LdaAndLdaxLoadAccumulator : Prop :=
  ∀ (s : State) (adr : Word),
    encode (.lda adr) = [0x3A, byte adr.toNat, byte (adr.toNat / 256)] ∧
    encode (Instr.ldax .b) = [0x0A] ∧ encode (Instr.ldax .d) = [0x1A] ∧
    (∀ p ∈ [(Instr.lda adr, adr), (Instr.ldax .b, cat s.b s.c), (Instr.ldax .d, cat s.d s.e)],
      (∀ v, s.read p.2 = .ok v → exec p.1 s = .next { s with a := v }) ∧
      (∀ e, s.read p.2 = .error e → exec p.1 s = .fault e))

/-- R126, R128: STA and STAX store A at ADR, BC or DE. -/
def Obligations.StaAndStaxStoreAccumulator : Prop :=
  ∀ (s : State) (adr : Word),
    encode (.sta adr) = [0x32, byte adr.toNat, byte (adr.toNat / 256)] ∧
    encode (Instr.stax .b) = [0x02] ∧ encode (Instr.stax .d) = [0x12] ∧
    (∀ p ∈ [(Instr.sta adr, adr), (Instr.stax .b, cat s.b s.c), (Instr.stax .d, cat s.d s.e)],
      (s.Writable p.2 → ∃ t, exec p.1 s = .next t ∧ SameButMem t s ∧ Stored1 s t p.2 s.a) ∧
      (∀ e, s.write p.2 s.a = .error e → exec p.1 s = .fault e))

/-- R129: LXI, the low register from B2 and the high register from B3. -/
def Obligations.LxiLoadsPair : Prop :=
  ∀ (s : State) (v : Word),
    let low := byte v.toNat
    let high := byte (v.toNat / 256)
    (∀ r, encode (Instr.lxi r v) = [byte (0x01 + 16 * pairCode r), low, high]) ∧
    exec (Instr.lxi .b v) s = .next { s with b := high, c := low } ∧
    exec (Instr.lxi .d v) s = .next { s with d := high, e := low } ∧
    exec (Instr.lxi .h v) s = .next { s with h := high, l := low } ∧
    exec (Instr.lxi .sp v) s = .next { s with sp := v }

/-- R130: PUSH of BC, DE and HL. -/
def Obligations.PushStoresPair : Prop :=
  ∀ s : State,
    encode (Instr.push .b) = [0xC5] ∧ encode (Instr.push .d) = [0xD5] ∧ encode (Instr.push .h) = [0xE5] ∧
    PushesTo (Instr.push .b) s s.b s.c { s with sp := s.sp - 2 } ∧
    PushesTo (Instr.push .d) s s.d s.e { s with sp := s.sp - 2 } ∧
    PushesTo (Instr.push .h) s s.h s.l { s with sp := s.sp - 2 }

/-- R131: PUSH PSW, with the flag byte of R34. -/
def Obligations.PushPswStoresAccumulatorAndFlags : Prop :=
  ∀ s : State,
    encode (Instr.push .psw) = [0xF5] ∧
    PushesTo (Instr.push .psw) s s.a
      (byte (128 * s.f.s.toNat + 64 * s.f.z.toNat + 16 * s.f.ac.toNat + 4 * s.f.p.toNat + 2 + s.f.c.toNat))
      { s with sp := s.sp - 2 }

/-- R132: POP of BC, DE and HL. -/
def Obligations.PopLoadsPair : Prop :=
  ∀ s : State,
    encode (Instr.pop .b) = [0xC1] ∧ encode (Instr.pop .d) = [0xD1] ∧ encode (Instr.pop .h) = [0xE1] ∧
    PopsTo (Instr.pop .b) s (fun high low => { s with b := high, c := low, sp := s.sp + 2 }) ∧
    PopsTo (Instr.pop .d) s (fun high low => { s with d := high, e := low, sp := s.sp + 2 }) ∧
    PopsTo (Instr.pop .h) s (fun high low => { s with h := high, l := low, sp := s.sp + 2 })

/-- R133: POP PSW loads A and all five flags; that the other three bits are dropped is the spec's decision D19. -/
def Obligations.PopPswLoadsAccumulatorAndFlags : Prop :=
  ∀ s : State,
    encode (Instr.pop .psw) = [0xF1] ∧
    PopsTo (Instr.pop .psw) s (fun high low =>
      { s with
        a := high
        sp := s.sp + 2
        f := { s := low.getLsbD 7, z := low.getLsbD 6, ac := low.getLsbD 4, p := low.getLsbD 2, c := low.getLsbD 0 } })

/-- R134: LHLD, L from ADR and H from ADR + 1; that ADR + 1 wraps is the spec's decision D2, and the read that names the fault
follows R79 (log entry 23). -/
def Obligations.LhldLoadsHl : Prop :=
  ∀ (s : State) (adr : Word),
    encode (.lhld adr) = [0x2A, byte adr.toNat, byte (adr.toNat / 256)] ∧
    (∀ low high, s.read adr = .ok low → s.read (adr + 1) = .ok high →
      exec (.lhld adr) s = .next { s with h := high, l := low }) ∧
    (∀ e, s.read adr = .error e → exec (.lhld adr) s = .fault e) ∧
    (∀ low e, s.read adr = .ok low → s.read (adr + 1) = .error e → exec (.lhld adr) s = .fault e)

/-- R135: SHLD, L to ADR and H to ADR + 1; that ADR + 1 wraps is the spec's decision D2, and the write that names the fault
follows R79 (log entry 23). -/
def Obligations.ShldStoresHl : Prop :=
  ∀ (s : State) (adr : Word),
    encode (.shld adr) = [0x22, byte adr.toNat, byte (adr.toNat / 256)] ∧
    (s.Writable adr → s.Writable (adr + 1) →
      ∃ t, exec (.shld adr) s = .next t ∧ SameButMem t s ∧ Stored2 s t adr s.l (adr + 1) s.h) ∧
    (∀ e, s.write adr s.l = .error e → exec (.shld adr) s = .fault e) ∧
    (∀ w e, s.write adr s.l = .ok w → w.write (adr + 1) s.h = .error e → exec (.shld adr) s = .fault e)

/-- R136, R137, R138: SPHL, PCHL and XCHG. -/
def Obligations.SphlPchlXchgMovePairs : Prop :=
  ∀ s : State,
    encode .sphl = [0xF9] ∧ encode .pchl = [0xE9] ∧ encode .xchg = [0xEB] ∧
    exec .sphl s = .next { s with sp := cat s.h s.l } ∧
    exec .pchl s = .next { s with pc := cat s.h s.l } ∧
    exec .xchg s = .next { s with d := s.h, e := s.l, h := s.d, l := s.e }

/-- R139: XTHL exchanges L with the byte at SP and H with the byte at SP + 1; the order of the four accesses is the spec's
decision D23 (log entry 23). -/
def Obligations.XthlExchangesHlWithStack : Prop :=
  ∀ s : State,
    encode .xthl = [0xE3] ∧
    (∀ low high, s.read s.sp = .ok low → s.read (s.sp + 1) = .ok high → s.Writable s.sp → s.Writable (s.sp + 1) →
      ∃ t, exec .xthl s = .next t ∧ SameButMem t { s with h := high, l := low } ∧
        Stored2 s t s.sp s.l (s.sp + 1) s.h) ∧
    (∀ e, s.read s.sp = .error e → exec .xthl s = .fault e) ∧
    (∀ low e, s.read s.sp = .ok low → s.read (s.sp + 1) = .error e → exec .xthl s = .fault e) ∧
    (∀ low high e, s.read s.sp = .ok low → s.read (s.sp + 1) = .ok high → s.write (s.sp + 1) s.h = .error e →
      exec .xthl s = .fault e) ∧
    (∀ low high w e, s.read s.sp = .ok low → s.read (s.sp + 1) = .ok high → s.write (s.sp + 1) s.h = .ok w →
      w.write s.sp s.l = .error e → exec .xthl s = .fault e)

/-! ## Data processing -/

/-- R150 to R153: ADD, ADC, ADI, ACI, with the flags of R37, which the spec derives; that ac is the carry out of D3 is its
decision D21. -/
def Obligations.AdditionsWriteSumAndFlags : Prop :=
  ∀ (s : State) (x : Operand8) (v : Byte),
    encode (Instr.alu .add x) = [byte (0x80 + operandCode x)] ∧ encode (Instr.alu .adc x) = [byte (0x88 + operandCode x)] ∧
    encode (.adi v) = [0xC6, v] ∧ encode (.aci v) = [0xCE, v] ∧
    exec (.adi v) s = .next (sumState s v 0) ∧
    exec (.aci v) s = .next (sumState s v s.f.c.toNat) ∧
    (s.rd8 x = .ok v → exec (Instr.alu .add x) s = .next (sumState s v 0) ∧
      exec (Instr.alu .adc x) s = .next (sumState s v s.f.c.toNat)) ∧
    (∀ e, s.rd8 x = .error e → exec (Instr.alu .add x) s = .fault e ∧ exec (Instr.alu .adc x) s = .fault e)

/-- R157 to R160: SUB, SBB, SUI, SBI; c is the borrow (the spec's decision D28); ac is `SUB_AC`, by default a function the spec
takes from general knowledge (log entry 13). -/
def Obligations.SubtractionsWriteDifferenceAndFlags : Prop :=
  ∀ (s : State) (x : Operand8) (v : Byte),
    encode (Instr.alu .sub x) = [byte (0x90 + operandCode x)] ∧ encode (Instr.alu .sbb x) = [byte (0x98 + operandCode x)] ∧
    encode (.sui v) = [0xD6, v] ∧ encode (.sbi v) = [0xDE, v] ∧
    exec (.sui v) s = .next (differenceState s v false) ∧
    exec (.sbi v) s = .next (differenceState s v s.f.c) ∧
    (s.rd8 x = .ok v → exec (Instr.alu .sub x) s = .next (differenceState s v false) ∧
      exec (Instr.alu .sbb x) s = .next (differenceState s v s.f.c)) ∧
    (∀ e, s.rd8 x = .error e → exec (Instr.alu .sub x) s = .fault e ∧ exec (Instr.alu .sbb x) s = .fault e)

/-- R161, R162, R165 to R167: ANA, ANI, XRA, XRI; c = 0 and ac by `AC_LOGIC`: a free bit, the old ac, or the i8080 value (the
spec's decision D4, log entry 11). -/
def Obligations.AndXorWriteResultAndFlags : Prop :=
  ∀ (s : State) (x : Operand8) (v : Byte),
    encode (Instr.alu .ana x) = [byte (0xA0 + operandCode x)] ∧ encode (Instr.alu .xra x) = [byte (0xA8 + operandCode x)] ∧
    encode (.ani v) = [0xE6, v] ∧ encode (.xri v) = [0xEE, v] ∧
    (∀ e, s.rd8 x = .error e → exec (Instr.alu .ana x) s = .fault e ∧ exec (Instr.alu .xra x) s = .fault e) ∧
    ∀ p ∈ [(Instr.ani v, s.a &&& v, decide ((s.a ||| v).toNat / 8 % 2 = 1), True),
        (Instr.xri v, s.a ^^^ v, false, True),
        (Instr.alu .ana x, s.a &&& v, decide ((s.a ||| v).toNat / 8 % 2 = 1), s.rd8 x = .ok v),
        (Instr.alu .xra x, s.a ^^^ v, false, s.rd8 x = .ok v)],
      p.2.2.2 → ∃ ac n,
        exec p.1 s = .next { s with a := p.2.1, f := resultFlags p.2.1 false ac, draws := n } ∧
        (s.params.acLogic = .draw → n = s.draws + 1) ∧
        (s.params.acLogic = .unchanged → ac = s.f.ac ∧ n = s.draws) ∧
        (s.params.acLogic = .i8080 → ac = p.2.2.1 ∧ n = s.draws)

/-- R163, R164: ORA and ORI; c = ac = 0. -/
def Obligations.OrWritesResultAndFlags : Prop :=
  ∀ (s : State) (x : Operand8) (v : Byte),
    encode (Instr.alu .ora x) = [byte (0xB0 + operandCode x)] ∧ encode (.ori v) = [0xF6, v] ∧
    exec (.ori v) s = .next { s with a := s.a ||| v, f := resultFlags (s.a ||| v) false false } ∧
    (s.rd8 x = .ok v →
      exec (Instr.alu .ora x) s = .next { s with a := s.a ||| v, f := resultFlags (s.a ||| v) false false }) ∧
    (∀ e, s.rd8 x = .error e → exec (Instr.alu .ora x) s = .fault e)

/-- R169, R171: CMP and CPI write the flags of A minus the operand and nothing else; with `CMP_FLAGS = zc_only` s, p and ac
are free bits (the spec's decision D5, log entry 12).  With `CMP_FLAGS = all`, ac is `SUB_AC` (decision D6), by default a
function the spec takes from general knowledge (log entry 13). -/
def Obligations.CompareWritesFlagsOnly : Prop :=
  ∀ (s : State) (x : Operand8) (v : Byte),
    encode (Instr.alu .cmp x) = [byte (0xB8 + operandCode x)] ∧ encode (.cpi v) = [0xFE, v] ∧
    (∀ e, s.rd8 x = .error e → exec (Instr.alu .cmp x) s = .fault e) ∧
    ∀ p ∈ [(Instr.cpi v, True), (Instr.alu .cmp x, s.rd8 x = .ok v)], p.2 →
      (s.params.cmpFlags = .all → exec p.1 s = .next { s with f := differenceFlags s.params s.a v false }) ∧
      (s.params.cmpFlags = .zcOnly → ∃ sign parity ac,
        exec p.1 s = .next { s with
          f := { z := decide (s.a = v), s := sign, p := parity, ac := ac, c := decide (s.a.toNat < v.toNat) }
          draws := s.draws + 3 })

/-- R170, which the spec derives: after a comparison z says equal, c says less, both unsigned, and they never stand together. -/
def Obligations.CompareOrdersUnsigned : Prop :=
  ∀ (s : State) (x : Operand8) (v : Byte),
    ∀ p ∈ [(Instr.cpi v, True), (Instr.alu .cmp x, s.rd8 x = .ok v)], p.2 → ∃ t, exec p.1 s = .next t ∧
      (t.f.z = true ↔ s.a.toNat = v.toNat) ∧ (t.f.c = true ↔ s.a.toNat < v.toNat) ∧
      (t.f.c = false ∧ t.f.z = false ↔ v.toNat < s.a.toNat) ∧ ¬(t.f.c = true ∧ t.f.z = true)

/-- R172: INR of a register and of M; c is unchanged; that ac is the carry out of D3 is the spec's decision D21. -/
def Obligations.InrCountsUp : Prop :=
  ∀ s : State,
    (∀ x, encode (Instr.inr x) = [byte (0x04 + 8 * operandCode x)]) ∧
    (∀ r, let n := byte ((s.reg r).toNat + 1)
      exec (Instr.inr (.reg r)) s = .next { s.setReg r n with f := resultFlags n s.f.c (decide ((s.reg r).toNat % 16 = 15)) }) ∧
    (∀ v, s.read s.hl = .ok v → s.Writable s.hl → let n := byte (v.toNat + 1)
      ∃ t, exec (Instr.inr .m) s = .next t ∧
        SameButMem t { s with f := resultFlags n s.f.c (decide (v.toNat % 16 = 15)) } ∧ Stored1 s t s.hl n) ∧
    (∀ e, s.read s.hl = .error e → exec (Instr.inr .m) s = .fault e) ∧
    (∀ v e, s.read s.hl = .ok v → s.write s.hl (byte (v.toNat + 1)) = .error e → exec (Instr.inr .m) s = .fault e)

/-- R174: DCR of a register and of M; c is unchanged and ac is `SUB_AC(v, 1, 0)` (log entry 13). -/
def Obligations.DcrCountsDown : Prop :=
  ∀ s : State,
    (∀ x, encode (Instr.dcr x) = [byte (0x05 + 8 * operandCode x)]) ∧
    (∀ r, let n := byte ((s.reg r).toNat + 255)
      exec (Instr.dcr (.reg r)) s = .next { s.setReg r n with
        f := resultFlags n s.f.c (borrowAc s.params (s.reg r) 1 false) }) ∧
    (∀ v, s.read s.hl = .ok v → s.Writable s.hl → let n := byte (v.toNat + 255)
      ∃ t, exec (Instr.dcr .m) s = .next t ∧
        SameButMem t { s with f := resultFlags n s.f.c (borrowAc s.params v 1 false) } ∧ Stored1 s t s.hl n) ∧
    (∀ e, s.read s.hl = .error e → exec (Instr.dcr .m) s = .fault e) ∧
    (∀ v e, s.read s.hl = .ok v → s.write s.hl (byte (v.toNat + 255)) = .error e → exec (Instr.dcr .m) s = .fault e)

/-- R173, R175: INX and DCX, without flags; the wrap modulo 2^16 is the spec's decision D2. -/
def Obligations.InxDcxCountPairs : Prop :=
  ∀ s : State,
    (∀ r, encode (Instr.inx r) = [byte (0x03 + 16 * pairCode r)] ∧ encode (Instr.dcx r) = [byte (0x0B + 16 * pairCode r)]) ∧
    ∀ p ∈ [((fun r => Instr.inx r), 1), ((fun r => Instr.dcx r), 65535)],
      (let n := 256 * s.b.toNat + s.c.toNat + p.2
       exec (p.1 .b) s = .next { s with b := byte (n / 256), c := byte n }) ∧
      (let n := 256 * s.d.toNat + s.e.toNat + p.2
       exec (p.1 .d) s = .next { s with d := byte (n / 256), e := byte n }) ∧
      (let n := 256 * s.h.toNat + s.l.toNat + p.2
       exec (p.1 .h) s = .next { s with h := byte (n / 256), l := byte n }) ∧
      exec (p.1 .sp) s = .next { s with sp := BitVec.ofNat 16 (s.sp.toNat + p.2) }

/-- R154: DAD adds a pair to HL; c is the carry out of bit 15 and the other flags stay. -/
def Obligations.DadAddsToHl : Prop :=
  ∀ (s : State) (r : Pair),
    let n := 256 * s.h.toNat + s.l.toNat + (s.pair r).toNat
    encode (Instr.dad r) = [byte (0x09 + 16 * pairCode r)] ∧
    exec (Instr.dad r) s = .next { s with h := byte (n / 256), l := byte n, f := { s.f with c := decide (65535 < n) } }

/-- R155, R156: DAA with the function R156 writes out from general knowledge, and with `DAA_FN` left uninterpreted (the spec's
decision D7, log entry 14). -/
def Obligations.DaaAdjusts : Prop :=
  ∀ s : State,
    encode .daa = [0x27] ∧
    (s.params.daaFn = .adjust →
      let low := s.a.toNat % 16
      let high := s.a.toNat / 16
      let lowFix := if 9 < low ∨ s.f.ac = true then 6 else 0
      let highFix := if 9 < high ∨ s.f.c = true ∨ (high = 9 ∧ 9 < low) then 0x60 else 0
      let r := byte (s.a.toNat + lowFix + highFix)
      exec .daa s = .next { s with
        a := r
        f := resultFlags r (decide (highFix ≠ 0) || s.f.c) (decide (15 < low + lowFix)) }) ∧
    (s.params.daaFn = .uninterpreted →
      let x := Config.daaFn s.a s.f.ac s.f.c
      exec .daa s = .next { s with a := x.1, f := resultFlags x.1 x.2.1 x.2.2 })

/-- The sentence derived in R156: ADD or ADC of packed decimals, then DAA, leaves the two low decimal digits of the sum in A
and the hundreds digit in c.  It rests on the default `DAA_FN` (log entry 14). -/
def Obligations.DaaCorrectsDecimalSum : Prop :=
  ∀ (s : State) (x : Operand8) (v : Byte), s.params.daaFn = .adjust → Packed s.a → Packed v → s.rd8 x = .ok v →
    ∀ p ∈ [(AluOp.add, 0), (AluOp.adc, s.f.c.toNat)],
      ∃ t u, exec (Instr.alu p.1 x) s = .next t ∧ exec .daa t = .next u ∧ Packed u.a ∧
        decimal u.a = (decimal s.a + decimal v + p.2) % 100 ∧
        u.f.c = decide (100 ≤ decimal s.a + decimal v + p.2)

/-! ## Rotates and specials -/

/-- R190 to R193: the four rotates write A and c; that the other flags stay is the spec's decision D8 (log entry 24). -/
def Obligations.RotatesMoveOneBit : Prop :=
  ∀ s : State,
    let top := s.a.toNat / 128
    let bottom := s.a.toNat % 2
    let rotated := fun (r : Nat) (out : Nat) => ({ s with a := byte r, f := { s.f with c := decide (out = 1) } } : State)
    encode .rlc = [0x07] ∧ encode .rrc = [0x0F] ∧ encode .ral = [0x17] ∧ encode .rar = [0x1F] ∧
    exec .rlc s = .next (rotated (2 * s.a.toNat % 256 + top) top) ∧
    exec .rrc s = .next (rotated (s.a.toNat / 2 + 128 * bottom) bottom) ∧
    exec .ral s = .next (rotated (2 * s.a.toNat % 256 + s.f.c.toNat) top) ∧
    exec .rar s = .next (rotated (s.a.toNat / 2 + 128 * s.f.c.toNat) bottom)

/-- From R190 to R193: RRC undoes RLC on A, and RAR undoes RAL on A and on all the flags (decision D8, log entry 24). -/
def Obligations.RightRotateUndoesLeft : Prop :=
  ∀ s : State,
    (∃ t u, exec .rlc s = .next t ∧ exec .rrc t = .next u ∧ u.a = s.a) ∧
    (∃ t, exec .ral s = .next t ∧ exec .rar t = .next s)

/-- R194 to R196: CMA, STC, CMC; that no other flag changes is the spec's decision D8 (log entry 24). -/
def Obligations.CmaStcCmcComplementAndSet : Prop :=
  ∀ s : State,
    encode .cma = [0x2F] ∧ encode .stc = [0x37] ∧ encode .cmc = [0x3F] ∧
    exec .cma s = .next { s with a := byte (255 - s.a.toNat) } ∧
    exec .stc s = .next { s with f := { s.f with c := true } } ∧
    exec .cmc s = .next { s with f := { s.f with c := decide (s.f.c = false) } }

/-! ## Control transfer -/

/-- R201, R204 to R212: JMP, and the conditional jumps, taken and not taken; the spec pairs the letters with the flags from
general knowledge (log entry 24). -/
def Obligations.JumpsLoadPc : Prop :=
  ∀ (s : State) (k : Cond) (adr : Word),
    encode (.jmp adr) = [0xC3, byte adr.toNat, byte (adr.toNat / 256)] ∧
    encode (Instr.jumpIf k adr) = [byte (0xC2 + 8 * condCode k), byte adr.toNat, byte (adr.toNat / 256)] ∧
    exec (.jmp adr) s = .next { s with pc := adr } ∧
    (condTrue k s.f → exec (Instr.jumpIf k adr) s = .next { s with pc := adr }) ∧
    (¬condTrue k s.f → exec (Instr.jumpIf k adr) s = .next s)

/-- R202: CALL pushes pc, which addresses the next instruction, and goes to ADR. -/
def Obligations.CallPushesPcAndJumps : Prop :=
  ∀ (s : State) (adr : Word),
    encode (.call adr) = [0xCD, byte adr.toNat, byte (adr.toNat / 256)] ∧
    PushesTo (.call adr) s (byte (s.pc.toNat / 256)) (byte s.pc.toNat) { s with sp := s.sp - 2, pc := adr }

/-- R203: RET pops pc. -/
def Obligations.RetPopsPc : Prop :=
  ∀ s : State,
    encode .ret = [0xC9] ∧
    PopsTo .ret s (fun high low => { s with sp := s.sp + 2, pc := cat high low })

/-- R213 to R220: the conditional calls: CALL when the condition holds, else nothing (the letters: log entry 24). -/
def Obligations.ConditionalCallsCallOrGoOn : Prop :=
  ∀ (s : State) (k : Cond) (adr : Word),
    encode (Instr.callIf k adr) = [byte (0xC4 + 8 * condCode k), byte adr.toNat, byte (adr.toNat / 256)] ∧
    (condTrue k s.f → PushesTo (Instr.callIf k adr) s (byte (s.pc.toNat / 256)) (byte s.pc.toNat)
      { s with sp := s.sp - 2, pc := adr }) ∧
    (¬condTrue k s.f → exec (Instr.callIf k adr) s = .next s)

/-- R221 to R228: the conditional returns: RET when the condition holds, else nothing (the letters: log entry 24). -/
def Obligations.ConditionalReturnsReturnOrGoOn : Prop :=
  ∀ (s : State) (k : Cond),
    encode (Instr.returnIf k) = [byte (0xC0 + 8 * condCode k)] ∧
    (condTrue k s.f → PopsTo (Instr.returnIf k) s (fun high low => { s with sp := s.sp + 2, pc := cat high low })) ∧
    (¬condTrue k s.f → exec (Instr.returnIf k) s = .next s)

/-- R229, R230, R97: RST N pushes pc, goes to 8 N and clears `inte` when `RST_SW_CLEARS_INTE` is true (the spec's decision D9,
log entry 15). -/
def Obligations.RstRestartsAtArea : Prop :=
  ∀ (s : State) (n : BitVec 3),
    encode (Instr.rst n) = [byte (0xC7 + 8 * n.toNat)] ∧
    PushesTo (Instr.rst n) s (byte (s.pc.toNat / 256)) (byte s.pc.toNat)
      { s with
        sp := s.sp - 2
        pc := BitVec.ofNat 16 (8 * n.toNat)
        inte := if s.params.rstSwClearsInte = true then false else s.inte }

/-- From R202 and R203: RET at the called place comes back to the instruction after the CALL, with SP as before it. -/
def Obligations.RetUndoesCall : Prop :=
  ∀ (s : State) (adr : Word), s.Writable (s.sp - 1) → s.Writable (s.sp - 2) →
    ∃ t u, exec (.call adr) s = .next t ∧ t.pc = adr ∧ exec .ret t = .next u ∧ SameButMem u s

/-! ## Control instructions and reserved bytes -/

/-- R240, R72: IN puts the device's byte into A and records the event; past the schedule of inputs the byte is free (the
model's form of the environment, log entries 8 and 9). -/
def Obligations.InReadsPort : Prop :=
  ∀ (s : State) (port : Byte),
    encode (.inPort port) = [0xDB, port] ∧
    (∀ v rest, s.inputs = v :: rest →
      exec (.inPort port) s = .next { s with a := v, inputs := rest, events := s.events ++ [.input port v] }) ∧
    (s.inputs = [] → ∃ v,
      exec (.inPort port) s = .next { s with a := v, draws := s.draws + 1, events := s.events ++ [.input port v] })

/-- R241, R73: OUT records the event and changes nothing else (the record is the model's, log entry 9). -/
def Obligations.OutWritesPort : Prop :=
  ∀ (s : State) (port : Byte),
    encode (.outPort port) = [0xD3, port] ∧
    exec (.outPort port) s = .next { s with events := s.events ++ [.output port s.a] }

/-- R242 to R245: what EI, DI, NOP and HLT write.  `justEi` is the model's mark that the last instruction was EI (log
entry 16). -/
def Obligations.EiDiNopHltWriteControlState : Prop :=
  ∀ s : State,
    encode .ei = [0xFB] ∧ encode .di = [0xF3] ∧ encode .nop = [0x00] ∧ encode .hlt = [0x76] ∧
    exec .ei s = .next { s with inte := true, justEi := true } ∧
    exec .di s = .next { s with inte := false } ∧
    exec .nop s = .next s ∧
    exec .hlt s = .next { s with halted := true }

/-- R104, U1: the twelve first bytes without an instruction, and no other, are the ill-formed terms; executing one does what
`UNDOC_OPCODES` says of the byte: the fault that names it, which is the default for each (the spec's decision D3), or one of
the other effects a platform may supply, which are the model's choice from what G6 reports (log entry 17). -/
def Obligations.ReservedBytesFollowUndocOpcodes : Prop :=
  (∀ i : Instr, i.wellFormed = false ↔
    ∃ op, encode i = [op] ∧ op ∈ ([0x08, 0x10, 0x18, 0x20, 0x28, 0x30, 0x38, 0xCB, 0xD9, 0xDD, 0xED, 0xFD] : List Byte)) ∧
  (∀ op, undocEffect defaultParams.undocOpcodes op = .fault) ∧
  ∀ (i : Instr) (s : State) (op : Byte), i.wellFormed = false → encode i = [op] →
    match undocEffect s.params.undocOpcodes op with
    | .fault => exec i s = .fault (.reservedOpcode op)
    | .nop => exec i s = .next s
    | .jump => OnAddress i s fun adr => exec i s = .next { s with pc := adr }
    | .call => OnAddress i s fun adr =>
      let back := (s.pc + 2).toNat
      PushesTo i s (byte (back / 256)) (byte back) { s with sp := s.sp - 2, pc := adr }
    | .ret => PopsTo i s (fun high low => { s with sp := s.sp + 2, pc := cat high low })

/-! ## Decoding -/

/-- R90 to R100: decoding the bytes of an instruction gives it back, whatever bytes follow, with every operand at every
value. -/
def Obligations.DecodeOfEncode : Prop :=
  ∀ (i : Instr) (rest : List Byte), decode (encode i ++ rest) = .ok (i, rest)

/-- R91, R98, R106: bytes that decode are the bytes of the instruction they decode to, and no others. -/
def Obligations.EncodeOfDecode : Prop :=
  ∀ (bytes rest : List Byte) (i : Instr), decode bytes = .ok (i, rest) → bytes = encode i ++ rest

/-- Words written out from R93 to R101 decode to the instructions they stand for. -/
def Obligations.DecodesWrittenOutWords : Prop :=
  decodeTableWord 8 0b01000001 = some (Instr.movRR .b .c) ∧
  decodeTableWord 8 0b01110110 = some .hlt ∧
  decodeTableWord 8 0b10011101 = some (Instr.alu .sbb (.reg .l)) ∧
  decodeTableWord 24 0x0B1A21 = some (Instr.lxi .h 0x0B1A) ∧
  decodeTableWord 24 0x0250FA = some (Instr.jumpIf .m 0x0250) ∧
  decodeTableWord 16 0x05DB = some (.inPort 0x05) ∧
  decodeTableWord 8 0b11101111 = some (Instr.rst 5)

/-! ## The step -/

/-- R92, R104, R254: where the bytes at pc decode to an instruction, or to the term of a reserved first byte, which is fetched
alone (log entry 17), and nothing is asserted or accepted, the step is `exec` of it with pc past its bytes; this recognition
point's sample is taken and the mark of EI is down (log entries 7, 16, 20, 22). -/
def Obligations.StepRunsDecodedInstruction : Prop :=
  ∀ (s : State) (i : Instr) (bytes : List Byte),
    s.sample.resetLine = false → (s.sample.intr = none ∨ s.inte = false) → s.halted = false →
    (∀ (k : Nat) (h : k < bytes.length), s.read (s.pc + BitVec.ofNat 16 k) = .ok bytes[k]) →
    decode bytes = .ok (i, []) →
    step s = exec i { s with pc := s.pc + BitVec.ofNat 16 bytes.length, signals := s.signals.tail, justEi := false }

/-- R66, R92: the step stops at the first byte of the instruction that cannot be fetched, be it an operand byte of a jump or
call that would not be taken (the spec's decision D31; log entries 4, 20 and 23). -/
def Obligations.FetchStopsAtMissingByte : Prop :=
  ∀ (s : State) (e : Fault), s.sample.resetLine = false → (s.sample.intr = none ∨ s.inte = false) → s.halted = false →
    (s.read s.pc = .error e → step s = .fault e) ∧
    (∀ op, s.read s.pc = .ok op → 2 ≤ instrLength op → s.read (s.pc + 1) = .error e → step s = .fault e) ∧
    (∀ op b2, s.read s.pc = .ok op → s.read (s.pc + 1) = .ok b2 → 3 ≤ instrLength op → s.read (s.pc + 2) = .error e →
      step s = .fault e)

/-- Every step keeps memory in its canonical form.  The form is the model's own (log entry 4). -/
def Obligations.StepKeepsMemoryCanonical : Prop :=
  ∀ s t : State, s.Inv → step s = .next t → t.Inv

/-- The state after reset has its memory in canonical form (log entry 4). -/
def Obligations.ResetMemoryCanonical : Prop := State.reset.Inv

/-- R67, R70: a step changes no cell that is not RAM, and never the memory map or another parameter (log entries 5, 6). -/
def Obligations.StepChangesOnlyRam : Prop :=
  ∀ s t : State, step s = .next t →
    t.params = s.params ∧ ∀ x : Word, s.kind x ≠ .ram → t.read x = s.read x

/-- R39, R140, R200, R246: an instruction whose first byte is no flag writer leaves all five flags unchanged. -/
def Obligations.OtherInstructionsKeepFlags : Prop :=
  ∀ (i : Instr) (s t : State) (op : Byte) (rest : List Byte),
    encode i = op :: rest → ¬FlagWriter op.toNat → exec i s = .next t → t.f = s.f

/-! ## Reset, interrupt, halt -/

/-- The rows of R48 with a value: pc, `inte` and `halted` after reset. -/
def Obligations.ResetStateClearsControl : Prop :=
  State.reset.pc = 0 ∧ State.reset.inte = false ∧ State.reset.halted = false

/-- R280, R258, R48: the reset signal wins over a request; pc, `inte` and `halted` become 0, memory keeps its content, and the
registers and flags take the values of `RESET_VALUES` where it supplies them.  That reset acts between instructions only, and
wins, are the spec's decisions D11 and D26 (log entries 7, 16, 20); with `RESET_VALUES = none` the statement claims no value of
a register (decision D13, log entry 3). -/
def Obligations.ResetEventWins : Prop :=
  ∀ s : State, s.sample.resetLine = true →
    (∃ t, step s = .next t ∧ t.pc = 0 ∧ t.inte = false ∧ t.halted = false ∧ t.mem = s.mem ∧ t.params = s.params ∧
      t.signals = s.signals.tail ∧ t.inputs = s.inputs ∧ t.events = s.events) ∧
    ∀ v, s.params.resetValues = some v → step s = .next { s with
      a := v.a, b := v.b, c := v.c, d := v.d, e := v.e, h := v.h, l := v.l, sp := v.sp, f := v.f
      pc := 0
      inte := false
      halted := false
      signals := s.signals.tail
      justEi := false }

/-- R256, which the spec derives: an accepted request with `RST N` supplied pushes the unadvanced pc and enters area N with
interrupts disabled and the halt ended; nothing else changes but the record of the event and the model's bookkeeping (log
entries 7, 9, 16, 18, 20).  A stack write that faults is the step's fault, as for any push; that a write faults is the spec's
decision D14, and which one is named first follows its decision D23 (log entries 5, 6, 23). -/
def Obligations.InterruptEntryPushesPc : Prop :=
  ∀ (s : State) (n : BitVec 3),
    s.sample.resetLine = false → s.sample.intr = some (byte (0xC7 + 8 * n.toNat)) → s.inte = true →
    (s.params.eiDelay = false ∨ s.justEi = false ∨ s.halted = true) →
    Pushes (step s) s (byte (s.pc.toNat / 256)) (byte s.pc.toNat)
      { s with
        sp := s.sp - 2
        pc := BitVec.ofNat 16 (8 * n.toNat)
        inte := false
        halted := false
        signals := s.signals.tail
        events := s.events ++ [.interrupt n]
        justEi := false }

/-- R253, R254: while `inte` = 0, and with `EI_DELAY = 1` right after EI, a request has no effect: the step is that of a
quiet environment (the spec's decisions D10, D30; log entries 7, 16). -/
def Obligations.RequestIgnoredWhileDisabled : Prop :=
  ∀ s : State, s.sample.resetLine = false →
    (s.inte = false ∨ (s.params.eiDelay = true ∧ s.justEi = true ∧ s.halted = false)) →
    step s = step { s with signals := Signals.quiet :: s.signals.tail }

/-- R245: while halted and without reset or an accepted request, a step changes nothing but takes the sample (log entries 7,
19). -/
def Obligations.HaltKeepsState : Prop :=
  ∀ s : State, s.halted = true → s.sample.resetLine = false → (s.sample.intr = none ∨ s.inte = false) →
    step s = .next { s with signals := s.signals.tail }

/-- R255: an accepted request with a byte that is no RST is refused (the spec's decision D12, log entry 18). -/
def Obligations.SuppliedNotRstRefused : Prop :=
  ∀ (s : State) (v : Byte), s.sample.resetLine = false → s.sample.intr = some v → s.inte = true →
    (s.params.eiDelay = false ∨ s.justEi = false ∨ s.halted = true) →
    (∀ n : BitVec 3, v ≠ byte (0xC7 + 8 * n.toNat)) → step s = .refused (.suppliedNotRst v)

/-- R40, R253: interrupts become enabled by EI and by nothing else. -/
def Obligations.OnlyEiEnablesInterrupts : Prop :=
  ∀ s t : State, step s = .next t → s.inte = false → t.inte = true → s.halted = false ∧ s.read s.pc = .ok 0xFB

/-- R41, R268: the halt ends only by reset or by a request while interrupts are enabled (decision D22, log entry 19). -/
def Obligations.HaltEndsOnlyByResetOrInterrupt : Prop :=
  ∀ s t : State, step s = .next t → s.halted = true → t.halted = false →
    s.sample.resetLine = true ∨ (s.inte = true ∧ ∃ v, s.sample.intr = some v)
end

