-- ==== Sys2Proof/Laws/Bits.lean ====
section
/-! SUPPORT. Bytes and 16-bit values: the halves of `cat`, and `cat` of the halves. -/

namespace Sys2Proof.Machine

@[simp] theorem hi_cat (h l : Byte) : hi (cat h l) = h := by
  simp only [hi, cat]
  ext i hi'
  simp only [BitVec.getElem_extractLsb', BitVec.getLsbD_append]
  simp [BitVec.getLsbD_eq_getElem hi']

@[simp] theorem lo_cat (h l : Byte) : lo (cat h l) = l := by
  simp only [lo, cat]
  ext i hi'
  simp only [BitVec.getElem_extractLsb', BitVec.getLsbD_append]
  simp [hi']

@[simp] theorem cat_hi_lo (v : Word) : cat (hi v) (lo v) = v := by
  apply BitVec.eq_of_toNat_eq
  simp only [hi, lo, cat, BitVec.toNat_append, BitVec.extractLsb'_toNat]
  have := v.isLt
  rw [← Nat.shiftLeft_add_eq_or_of_lt (by omega)]
  simp only [Nat.shiftLeft_eq, Nat.shiftRight_eq_div_pow]
  omega

@[simp] theorem State.setBc_bc (s : State) (v : Word) : (s.setBc v).bc = v := cat_hi_lo v
@[simp] theorem State.setDe_de (s : State) (v : Word) : (s.setDe v).de = v := cat_hi_lo v
@[simp] theorem State.setHl_hl (s : State) (v : Word) : (s.setHl v).hl = v := cat_hi_lo v

/-- A pair reads as what was written to it (R10). -/
@[simp] theorem State.pair_setPair (s : State) (r : Pair) (v : Word) : (s.setPair r v).pair r = v := by
  cases r <;> simp [State.setPair, State.pair, State.setSp]

/-- The flag byte and the flags it loads undo each other (R34). -/
@[simp] theorem flagsOfByte_byte (f : Flags) : flagsOfByte f.byte = f := by
  obtain ⟨z, s, p, ac, c⟩ := f
  cases z <;> cases s <;> cases p <;> cases ac <;> cases c <;> rfl

end Sys2Proof.Machine
end

