-- ==== Sys2Proof/Laws/Memory.lean ====
section
/-! SUPPORT. The laws of the memory list: read after write, and the canonical form. -/

namespace Sys2Proof.Machine

theorem Memory.read_write_same (m : Memory) (x : Nat) (v : Byte) : (m.write x v).read x = some v := by
  induction m with
  | nil => simp [Memory.write, Memory.read]
  | cons e rest ih =>
    obtain ⟨k, w⟩ := e
    simp only [Memory.write]
    split
    · simp [Memory.read]
    · split
      · simp [Memory.read]
      · simp_all [Memory.read, eq_comm]

theorem Memory.read_write_other (m : Memory) {x y : Nat} (v : Byte) (h : y ≠ x) : (m.write x v).read y = m.read y := by
  induction m with
  | nil => simp [Memory.write, Memory.read, h.symm]
  | cons e rest ih =>
    obtain ⟨k, w⟩ := e
    simp only [Memory.write]
    split
    · simp [Memory.read, h.symm]
    · split
      · subst_vars; simp [Memory.read, h.symm]
      · simp [Memory.read, ih]

/-- What one byte of memory reads as after a write. -/
theorem Memory.read_write (m : Memory) (x y : Nat) (v : Byte) :
    (m.write x v).read y = if y = x then some v else m.read y := by
  split
  · subst_vars; exact m.read_write_same _ v
  · exact m.read_write_other v (by assumption)

theorem Memory.wfFrom_write (m : Memory) (n x : Nat) (v : Byte) (hn : n ≤ x) (hx : x < 65536)
    (h : Memory.wfFrom n m = true) : Memory.wfFrom n (m.write x v) = true := by
  induction m generalizing n with
  | nil => simp [Memory.write, Memory.wfFrom, hn, hx]
  | cons e rest ih =>
    obtain ⟨k, w⟩ := e
    simp only [Memory.wfFrom, Bool.and_eq_true, decide_eq_true_eq] at h
    simp only [Memory.write]
    split
    · simp only [Memory.wfFrom, Bool.and_eq_true, decide_eq_true_eq]
      exact ⟨⟨hn, hx⟩, ⟨⟨by omega, h.1.2⟩, h.2⟩⟩
    · split
      · subst_vars
        simp only [Memory.wfFrom, Bool.and_eq_true, decide_eq_true_eq]
        exact ⟨⟨hn, hx⟩, h.2⟩
      · simp only [Memory.wfFrom, Bool.and_eq_true, decide_eq_true_eq]
        exact ⟨h.1, ih (k + 1) (by omega) h.2⟩

/-- A write keeps the canonical form. -/
theorem Memory.wf_write (m : Memory) (x : Word) (v : Byte) (h : m.wf = true) : (m.write x.toNat v).wf = true :=
  Memory.wfFrom_write m 0 x.toNat v (Nat.zero_le _) x.isLt h

theorem Memory.read_below (m : Memory) (n x : Nat) (hx : x < n) (h : Memory.wfFrom n m = true) : m.read x = none := by
  induction m generalizing n with
  | nil => rfl
  | cons e rest ih =>
    obtain ⟨k, w⟩ := e
    simp only [Memory.wfFrom, Bool.and_eq_true, decide_eq_true_eq] at h
    simp only [Memory.read]
    rw [if_neg (by omega)]
    exact ih (k + 1) (by omega) h.2

theorem Memory.ext_from (m m' : Memory) (n n' : Nat) (h : Memory.wfFrom n m = true) (h' : Memory.wfFrom n' m' = true)
    (hr : ∀ x, m.read x = m'.read x) : m = m' := by
  induction m generalizing n n' m' with
  | nil =>
    cases m' with
    | nil => rfl
    | cons e rest => have := hr e.1; simp [Memory.read] at this
  | cons e rest ih =>
    obtain ⟨k, w⟩ := e
    cases m' with
    | nil => have := hr k; simp [Memory.read] at this
    | cons e' rest' =>
      obtain ⟨k', w'⟩ := e'
      simp only [Memory.wfFrom, Bool.and_eq_true, decide_eq_true_eq] at h h'
      have hk : k = k' := by
        rcases Nat.lt_trichotomy k k' with hlt | heq | hgt
        · have h1 := hr k
          have h2 := Memory.read_below rest' (k' + 1) k (by omega) h'.2
          simp [Memory.read, h2] at h1
          omega
        · exact heq
        · have h1 := hr k'
          have h2 := Memory.read_below rest (k + 1) k' (by omega) h.2
          simp [Memory.read, h2] at h1
          omega
      subst hk
      have hw : w = w' := by have := hr k; simpa [Memory.read] using this
      subst hw
      have : rest = rest' := by
        apply ih rest' (k + 1) (k + 1) h.2 h'.2
        intro x
        have hx := hr x
        by_cases hxk : k = x
        · subst hxk
          rw [Memory.read_below rest (k + 1) k (by omega) h.2, Memory.read_below rest' (k + 1) k (by omega) h'.2]
        · simpa [Memory.read, hxk] using hx
      rw [this]

/-- Two canonical memories that read alike everywhere are equal data. -/
theorem Memory.eq_of_read_eq (m m' : Memory) (h : m.wf = true) (h' : m'.wf = true)
    (hr : ∀ x, m.read x = m'.read x) : m = m' := Memory.ext_from m m' 0 0 h h' hr

end Sys2Proof.Machine
end

