-- ==== Sys2Proof/Laws/State.lean ====
section
/-! SUPPORT. One lemma for each field and each update of the state, so that no later proof unfolds a record update. -/

namespace Sys2Proof.Machine

variable (s : State)

/-! ### `setPc` -/

@[simp] theorem State.setPc_a (v : Word) : (s.setPc v).a = s.a := rfl
@[simp] theorem State.setPc_b (v : Word) : (s.setPc v).b = s.b := rfl
@[simp] theorem State.setPc_c (v : Word) : (s.setPc v).c = s.c := rfl
@[simp] theorem State.setPc_d (v : Word) : (s.setPc v).d = s.d := rfl
@[simp] theorem State.setPc_e (v : Word) : (s.setPc v).e = s.e := rfl
@[simp] theorem State.setPc_h (v : Word) : (s.setPc v).h = s.h := rfl
@[simp] theorem State.setPc_l (v : Word) : (s.setPc v).l = s.l := rfl
@[simp] theorem State.setPc_sp (v : Word) : (s.setPc v).sp = s.sp := rfl
@[simp] theorem State.setPc_pc (v : Word) : (s.setPc v).pc = v := rfl
@[simp] theorem State.setPc_f (v : Word) : (s.setPc v).f = s.f := rfl
@[simp] theorem State.setPc_inte (v : Word) : (s.setPc v).inte = s.inte := rfl
@[simp] theorem State.setPc_halted (v : Word) : (s.setPc v).halted = s.halted := rfl
@[simp] theorem State.setPc_mem (v : Word) : (s.setPc v).mem = s.mem := rfl
@[simp] theorem State.setPc_params (v : Word) : (s.setPc v).params = s.params := rfl
@[simp] theorem State.setPc_signals (v : Word) : (s.setPc v).signals = s.signals := rfl
@[simp] theorem State.setPc_inputs (v : Word) : (s.setPc v).inputs = s.inputs := rfl
@[simp] theorem State.setPc_events (v : Word) : (s.setPc v).events = s.events := rfl
@[simp] theorem State.setPc_draws (v : Word) : (s.setPc v).draws = s.draws := rfl
@[simp] theorem State.setPc_justEi (v : Word) : (s.setPc v).justEi = s.justEi := rfl

/-! ### `setSp` -/

@[simp] theorem State.setSp_a (v : Word) : (s.setSp v).a = s.a := rfl
@[simp] theorem State.setSp_b (v : Word) : (s.setSp v).b = s.b := rfl
@[simp] theorem State.setSp_c (v : Word) : (s.setSp v).c = s.c := rfl
@[simp] theorem State.setSp_d (v : Word) : (s.setSp v).d = s.d := rfl
@[simp] theorem State.setSp_e (v : Word) : (s.setSp v).e = s.e := rfl
@[simp] theorem State.setSp_h (v : Word) : (s.setSp v).h = s.h := rfl
@[simp] theorem State.setSp_l (v : Word) : (s.setSp v).l = s.l := rfl
@[simp] theorem State.setSp_sp (v : Word) : (s.setSp v).sp = v := rfl
@[simp] theorem State.setSp_pc (v : Word) : (s.setSp v).pc = s.pc := rfl
@[simp] theorem State.setSp_f (v : Word) : (s.setSp v).f = s.f := rfl
@[simp] theorem State.setSp_inte (v : Word) : (s.setSp v).inte = s.inte := rfl
@[simp] theorem State.setSp_halted (v : Word) : (s.setSp v).halted = s.halted := rfl
@[simp] theorem State.setSp_mem (v : Word) : (s.setSp v).mem = s.mem := rfl
@[simp] theorem State.setSp_params (v : Word) : (s.setSp v).params = s.params := rfl
@[simp] theorem State.setSp_signals (v : Word) : (s.setSp v).signals = s.signals := rfl
@[simp] theorem State.setSp_inputs (v : Word) : (s.setSp v).inputs = s.inputs := rfl
@[simp] theorem State.setSp_events (v : Word) : (s.setSp v).events = s.events := rfl
@[simp] theorem State.setSp_draws (v : Word) : (s.setSp v).draws = s.draws := rfl
@[simp] theorem State.setSp_justEi (v : Word) : (s.setSp v).justEi = s.justEi := rfl

/-! ### `setFlags` -/

@[simp] theorem State.setFlags_a (v : Flags) : (s.setFlags v).a = s.a := rfl
@[simp] theorem State.setFlags_b (v : Flags) : (s.setFlags v).b = s.b := rfl
@[simp] theorem State.setFlags_c (v : Flags) : (s.setFlags v).c = s.c := rfl
@[simp] theorem State.setFlags_d (v : Flags) : (s.setFlags v).d = s.d := rfl
@[simp] theorem State.setFlags_e (v : Flags) : (s.setFlags v).e = s.e := rfl
@[simp] theorem State.setFlags_h (v : Flags) : (s.setFlags v).h = s.h := rfl
@[simp] theorem State.setFlags_l (v : Flags) : (s.setFlags v).l = s.l := rfl
@[simp] theorem State.setFlags_sp (v : Flags) : (s.setFlags v).sp = s.sp := rfl
@[simp] theorem State.setFlags_pc (v : Flags) : (s.setFlags v).pc = s.pc := rfl
@[simp] theorem State.setFlags_f (v : Flags) : (s.setFlags v).f = v := rfl
@[simp] theorem State.setFlags_inte (v : Flags) : (s.setFlags v).inte = s.inte := rfl
@[simp] theorem State.setFlags_halted (v : Flags) : (s.setFlags v).halted = s.halted := rfl
@[simp] theorem State.setFlags_mem (v : Flags) : (s.setFlags v).mem = s.mem := rfl
@[simp] theorem State.setFlags_params (v : Flags) : (s.setFlags v).params = s.params := rfl
@[simp] theorem State.setFlags_signals (v : Flags) : (s.setFlags v).signals = s.signals := rfl
@[simp] theorem State.setFlags_inputs (v : Flags) : (s.setFlags v).inputs = s.inputs := rfl
@[simp] theorem State.setFlags_events (v : Flags) : (s.setFlags v).events = s.events := rfl
@[simp] theorem State.setFlags_draws (v : Flags) : (s.setFlags v).draws = s.draws := rfl
@[simp] theorem State.setFlags_justEi (v : Flags) : (s.setFlags v).justEi = s.justEi := rfl

/-! ### `setInte` -/

@[simp] theorem State.setInte_a (v : Bool) : (s.setInte v).a = s.a := rfl
@[simp] theorem State.setInte_b (v : Bool) : (s.setInte v).b = s.b := rfl
@[simp] theorem State.setInte_c (v : Bool) : (s.setInte v).c = s.c := rfl
@[simp] theorem State.setInte_d (v : Bool) : (s.setInte v).d = s.d := rfl
@[simp] theorem State.setInte_e (v : Bool) : (s.setInte v).e = s.e := rfl
@[simp] theorem State.setInte_h (v : Bool) : (s.setInte v).h = s.h := rfl
@[simp] theorem State.setInte_l (v : Bool) : (s.setInte v).l = s.l := rfl
@[simp] theorem State.setInte_sp (v : Bool) : (s.setInte v).sp = s.sp := rfl
@[simp] theorem State.setInte_pc (v : Bool) : (s.setInte v).pc = s.pc := rfl
@[simp] theorem State.setInte_f (v : Bool) : (s.setInte v).f = s.f := rfl
@[simp] theorem State.setInte_inte (v : Bool) : (s.setInte v).inte = v := rfl
@[simp] theorem State.setInte_halted (v : Bool) : (s.setInte v).halted = s.halted := rfl
@[simp] theorem State.setInte_mem (v : Bool) : (s.setInte v).mem = s.mem := rfl
@[simp] theorem State.setInte_params (v : Bool) : (s.setInte v).params = s.params := rfl
@[simp] theorem State.setInte_signals (v : Bool) : (s.setInte v).signals = s.signals := rfl
@[simp] theorem State.setInte_inputs (v : Bool) : (s.setInte v).inputs = s.inputs := rfl
@[simp] theorem State.setInte_events (v : Bool) : (s.setInte v).events = s.events := rfl
@[simp] theorem State.setInte_draws (v : Bool) : (s.setInte v).draws = s.draws := rfl
@[simp] theorem State.setInte_justEi (v : Bool) : (s.setInte v).justEi = s.justEi := rfl

/-! ### `setHalted` -/

@[simp] theorem State.setHalted_a (v : Bool) : (s.setHalted v).a = s.a := rfl
@[simp] theorem State.setHalted_b (v : Bool) : (s.setHalted v).b = s.b := rfl
@[simp] theorem State.setHalted_c (v : Bool) : (s.setHalted v).c = s.c := rfl
@[simp] theorem State.setHalted_d (v : Bool) : (s.setHalted v).d = s.d := rfl
@[simp] theorem State.setHalted_e (v : Bool) : (s.setHalted v).e = s.e := rfl
@[simp] theorem State.setHalted_h (v : Bool) : (s.setHalted v).h = s.h := rfl
@[simp] theorem State.setHalted_l (v : Bool) : (s.setHalted v).l = s.l := rfl
@[simp] theorem State.setHalted_sp (v : Bool) : (s.setHalted v).sp = s.sp := rfl
@[simp] theorem State.setHalted_pc (v : Bool) : (s.setHalted v).pc = s.pc := rfl
@[simp] theorem State.setHalted_f (v : Bool) : (s.setHalted v).f = s.f := rfl
@[simp] theorem State.setHalted_inte (v : Bool) : (s.setHalted v).inte = s.inte := rfl
@[simp] theorem State.setHalted_halted (v : Bool) : (s.setHalted v).halted = v := rfl
@[simp] theorem State.setHalted_mem (v : Bool) : (s.setHalted v).mem = s.mem := rfl
@[simp] theorem State.setHalted_params (v : Bool) : (s.setHalted v).params = s.params := rfl
@[simp] theorem State.setHalted_signals (v : Bool) : (s.setHalted v).signals = s.signals := rfl
@[simp] theorem State.setHalted_inputs (v : Bool) : (s.setHalted v).inputs = s.inputs := rfl
@[simp] theorem State.setHalted_events (v : Bool) : (s.setHalted v).events = s.events := rfl
@[simp] theorem State.setHalted_draws (v : Bool) : (s.setHalted v).draws = s.draws := rfl
@[simp] theorem State.setHalted_justEi (v : Bool) : (s.setHalted v).justEi = s.justEi := rfl

/-! ### `setMem` -/

@[simp] theorem State.setMem_a (v : Memory) : (s.setMem v).a = s.a := rfl
@[simp] theorem State.setMem_b (v : Memory) : (s.setMem v).b = s.b := rfl
@[simp] theorem State.setMem_c (v : Memory) : (s.setMem v).c = s.c := rfl
@[simp] theorem State.setMem_d (v : Memory) : (s.setMem v).d = s.d := rfl
@[simp] theorem State.setMem_e (v : Memory) : (s.setMem v).e = s.e := rfl
@[simp] theorem State.setMem_h (v : Memory) : (s.setMem v).h = s.h := rfl
@[simp] theorem State.setMem_l (v : Memory) : (s.setMem v).l = s.l := rfl
@[simp] theorem State.setMem_sp (v : Memory) : (s.setMem v).sp = s.sp := rfl
@[simp] theorem State.setMem_pc (v : Memory) : (s.setMem v).pc = s.pc := rfl
@[simp] theorem State.setMem_f (v : Memory) : (s.setMem v).f = s.f := rfl
@[simp] theorem State.setMem_inte (v : Memory) : (s.setMem v).inte = s.inte := rfl
@[simp] theorem State.setMem_halted (v : Memory) : (s.setMem v).halted = s.halted := rfl
@[simp] theorem State.setMem_mem (v : Memory) : (s.setMem v).mem = v := rfl
@[simp] theorem State.setMem_params (v : Memory) : (s.setMem v).params = s.params := rfl
@[simp] theorem State.setMem_signals (v : Memory) : (s.setMem v).signals = s.signals := rfl
@[simp] theorem State.setMem_inputs (v : Memory) : (s.setMem v).inputs = s.inputs := rfl
@[simp] theorem State.setMem_events (v : Memory) : (s.setMem v).events = s.events := rfl
@[simp] theorem State.setMem_draws (v : Memory) : (s.setMem v).draws = s.draws := rfl
@[simp] theorem State.setMem_justEi (v : Memory) : (s.setMem v).justEi = s.justEi := rfl

/-! ### `setJustEi` -/

@[simp] theorem State.setJustEi_a (v : Bool) : (s.setJustEi v).a = s.a := rfl
@[simp] theorem State.setJustEi_b (v : Bool) : (s.setJustEi v).b = s.b := rfl
@[simp] theorem State.setJustEi_c (v : Bool) : (s.setJustEi v).c = s.c := rfl
@[simp] theorem State.setJustEi_d (v : Bool) : (s.setJustEi v).d = s.d := rfl
@[simp] theorem State.setJustEi_e (v : Bool) : (s.setJustEi v).e = s.e := rfl
@[simp] theorem State.setJustEi_h (v : Bool) : (s.setJustEi v).h = s.h := rfl
@[simp] theorem State.setJustEi_l (v : Bool) : (s.setJustEi v).l = s.l := rfl
@[simp] theorem State.setJustEi_sp (v : Bool) : (s.setJustEi v).sp = s.sp := rfl
@[simp] theorem State.setJustEi_pc (v : Bool) : (s.setJustEi v).pc = s.pc := rfl
@[simp] theorem State.setJustEi_f (v : Bool) : (s.setJustEi v).f = s.f := rfl
@[simp] theorem State.setJustEi_inte (v : Bool) : (s.setJustEi v).inte = s.inte := rfl
@[simp] theorem State.setJustEi_halted (v : Bool) : (s.setJustEi v).halted = s.halted := rfl
@[simp] theorem State.setJustEi_mem (v : Bool) : (s.setJustEi v).mem = s.mem := rfl
@[simp] theorem State.setJustEi_params (v : Bool) : (s.setJustEi v).params = s.params := rfl
@[simp] theorem State.setJustEi_signals (v : Bool) : (s.setJustEi v).signals = s.signals := rfl
@[simp] theorem State.setJustEi_inputs (v : Bool) : (s.setJustEi v).inputs = s.inputs := rfl
@[simp] theorem State.setJustEi_events (v : Bool) : (s.setJustEi v).events = s.events := rfl
@[simp] theorem State.setJustEi_draws (v : Bool) : (s.setJustEi v).draws = s.draws := rfl
@[simp] theorem State.setJustEi_justEi (v : Bool) : (s.setJustEi v).justEi = v := rfl

/-! ### `addEvent` -/

@[simp] theorem State.addEvent_a (v : Event) : (s.addEvent v).a = s.a := rfl
@[simp] theorem State.addEvent_b (v : Event) : (s.addEvent v).b = s.b := rfl
@[simp] theorem State.addEvent_c (v : Event) : (s.addEvent v).c = s.c := rfl
@[simp] theorem State.addEvent_d (v : Event) : (s.addEvent v).d = s.d := rfl
@[simp] theorem State.addEvent_e (v : Event) : (s.addEvent v).e = s.e := rfl
@[simp] theorem State.addEvent_h (v : Event) : (s.addEvent v).h = s.h := rfl
@[simp] theorem State.addEvent_l (v : Event) : (s.addEvent v).l = s.l := rfl
@[simp] theorem State.addEvent_sp (v : Event) : (s.addEvent v).sp = s.sp := rfl
@[simp] theorem State.addEvent_pc (v : Event) : (s.addEvent v).pc = s.pc := rfl
@[simp] theorem State.addEvent_f (v : Event) : (s.addEvent v).f = s.f := rfl
@[simp] theorem State.addEvent_inte (v : Event) : (s.addEvent v).inte = s.inte := rfl
@[simp] theorem State.addEvent_halted (v : Event) : (s.addEvent v).halted = s.halted := rfl
@[simp] theorem State.addEvent_mem (v : Event) : (s.addEvent v).mem = s.mem := rfl
@[simp] theorem State.addEvent_params (v : Event) : (s.addEvent v).params = s.params := rfl
@[simp] theorem State.addEvent_signals (v : Event) : (s.addEvent v).signals = s.signals := rfl
@[simp] theorem State.addEvent_inputs (v : Event) : (s.addEvent v).inputs = s.inputs := rfl
@[simp] theorem State.addEvent_events (v : Event) : (s.addEvent v).events = s.events ++ [v] := rfl
@[simp] theorem State.addEvent_draws (v : Event) : (s.addEvent v).draws = s.draws := rfl
@[simp] theorem State.addEvent_justEi (v : Event) : (s.addEvent v).justEi = s.justEi := rfl

/-! ### `dropSample` -/

@[simp] theorem State.dropSample_a  : (s.dropSample).a = s.a := rfl
@[simp] theorem State.dropSample_b  : (s.dropSample).b = s.b := rfl
@[simp] theorem State.dropSample_c  : (s.dropSample).c = s.c := rfl
@[simp] theorem State.dropSample_d  : (s.dropSample).d = s.d := rfl
@[simp] theorem State.dropSample_e  : (s.dropSample).e = s.e := rfl
@[simp] theorem State.dropSample_h  : (s.dropSample).h = s.h := rfl
@[simp] theorem State.dropSample_l  : (s.dropSample).l = s.l := rfl
@[simp] theorem State.dropSample_sp  : (s.dropSample).sp = s.sp := rfl
@[simp] theorem State.dropSample_pc  : (s.dropSample).pc = s.pc := rfl
@[simp] theorem State.dropSample_f  : (s.dropSample).f = s.f := rfl
@[simp] theorem State.dropSample_inte  : (s.dropSample).inte = s.inte := rfl
@[simp] theorem State.dropSample_halted  : (s.dropSample).halted = s.halted := rfl
@[simp] theorem State.dropSample_mem  : (s.dropSample).mem = s.mem := rfl
@[simp] theorem State.dropSample_params  : (s.dropSample).params = s.params := rfl
@[simp] theorem State.dropSample_signals  : (s.dropSample).signals = s.signals.tail := rfl
@[simp] theorem State.dropSample_inputs  : (s.dropSample).inputs = s.inputs := rfl
@[simp] theorem State.dropSample_events  : (s.dropSample).events = s.events := rfl
@[simp] theorem State.dropSample_draws  : (s.dropSample).draws = s.draws := rfl
@[simp] theorem State.dropSample_justEi  : (s.dropSample).justEi = s.justEi := rfl

/-! ### `setRegisters` and the reset event -/

@[simp] theorem State.setRegisters_a (v : ResetValues) : (s.setRegisters v).a = v.a := rfl
@[simp] theorem State.setRegisters_b (v : ResetValues) : (s.setRegisters v).b = v.b := rfl
@[simp] theorem State.setRegisters_c (v : ResetValues) : (s.setRegisters v).c = v.c := rfl
@[simp] theorem State.setRegisters_d (v : ResetValues) : (s.setRegisters v).d = v.d := rfl
@[simp] theorem State.setRegisters_e (v : ResetValues) : (s.setRegisters v).e = v.e := rfl
@[simp] theorem State.setRegisters_h (v : ResetValues) : (s.setRegisters v).h = v.h := rfl
@[simp] theorem State.setRegisters_l (v : ResetValues) : (s.setRegisters v).l = v.l := rfl
@[simp] theorem State.setRegisters_sp (v : ResetValues) : (s.setRegisters v).sp = v.sp := rfl
@[simp] theorem State.setRegisters_pc (v : ResetValues) : (s.setRegisters v).pc = s.pc := rfl
@[simp] theorem State.setRegisters_f (v : ResetValues) : (s.setRegisters v).f = v.f := rfl
@[simp] theorem State.setRegisters_inte (v : ResetValues) : (s.setRegisters v).inte = s.inte := rfl
@[simp] theorem State.setRegisters_halted (v : ResetValues) : (s.setRegisters v).halted = s.halted := rfl
@[simp] theorem State.setRegisters_mem (v : ResetValues) : (s.setRegisters v).mem = s.mem := rfl
@[simp] theorem State.setRegisters_params (v : ResetValues) : (s.setRegisters v).params = s.params := rfl
@[simp] theorem State.setRegisters_signals (v : ResetValues) : (s.setRegisters v).signals = s.signals := rfl
@[simp] theorem State.setRegisters_inputs (v : ResetValues) : (s.setRegisters v).inputs = s.inputs := rfl
@[simp] theorem State.setRegisters_events (v : ResetValues) : (s.setRegisters v).events = s.events := rfl
@[simp] theorem State.setRegisters_draws (v : ResetValues) : (s.setRegisters v).draws = s.draws := rfl
@[simp] theorem State.setRegisters_justEi (v : ResetValues) : (s.setRegisters v).justEi = s.justEi := rfl

@[simp] theorem State.resetEvent_pc : s.resetEvent.pc = 0 := rfl
@[simp] theorem State.resetEvent_inte : s.resetEvent.inte = false := rfl
@[simp] theorem State.resetEvent_halted : s.resetEvent.halted = false := rfl
@[simp] theorem State.resetEvent_justEi : s.resetEvent.justEi = false := rfl
@[simp] theorem State.resetEvent_mem : s.resetEvent.mem = s.mem := by
  unfold State.resetEvent State.resetRegisters; split <;> rfl
@[simp] theorem State.resetEvent_params : s.resetEvent.params = s.params := by
  unfold State.resetEvent State.resetRegisters; split <;> rfl
@[simp] theorem State.resetEvent_signals : s.resetEvent.signals = s.signals := by
  unfold State.resetEvent State.resetRegisters; split <;> rfl
@[simp] theorem State.resetEvent_inputs : s.resetEvent.inputs = s.inputs := by
  unfold State.resetEvent State.resetRegisters; split <;> rfl
@[simp] theorem State.resetEvent_events : s.resetEvent.events = s.events := by
  unfold State.resetEvent State.resetRegisters; split <;> rfl

/-! ### `setBc` -/

@[simp] theorem State.setBc_a (v : Word) : (s.setBc v).a = s.a := rfl
@[simp] theorem State.setBc_b (v : Word) : (s.setBc v).b = hi v := rfl
@[simp] theorem State.setBc_c (v : Word) : (s.setBc v).c = lo v := rfl
@[simp] theorem State.setBc_d (v : Word) : (s.setBc v).d = s.d := rfl
@[simp] theorem State.setBc_e (v : Word) : (s.setBc v).e = s.e := rfl
@[simp] theorem State.setBc_h (v : Word) : (s.setBc v).h = s.h := rfl
@[simp] theorem State.setBc_l (v : Word) : (s.setBc v).l = s.l := rfl
@[simp] theorem State.setBc_sp (v : Word) : (s.setBc v).sp = s.sp := rfl
@[simp] theorem State.setBc_pc (v : Word) : (s.setBc v).pc = s.pc := rfl
@[simp] theorem State.setBc_f (v : Word) : (s.setBc v).f = s.f := rfl
@[simp] theorem State.setBc_inte (v : Word) : (s.setBc v).inte = s.inte := rfl
@[simp] theorem State.setBc_halted (v : Word) : (s.setBc v).halted = s.halted := rfl
@[simp] theorem State.setBc_mem (v : Word) : (s.setBc v).mem = s.mem := rfl
@[simp] theorem State.setBc_params (v : Word) : (s.setBc v).params = s.params := rfl
@[simp] theorem State.setBc_signals (v : Word) : (s.setBc v).signals = s.signals := rfl
@[simp] theorem State.setBc_inputs (v : Word) : (s.setBc v).inputs = s.inputs := rfl
@[simp] theorem State.setBc_events (v : Word) : (s.setBc v).events = s.events := rfl
@[simp] theorem State.setBc_draws (v : Word) : (s.setBc v).draws = s.draws := rfl
@[simp] theorem State.setBc_justEi (v : Word) : (s.setBc v).justEi = s.justEi := rfl

/-! ### `setDe` -/

@[simp] theorem State.setDe_a (v : Word) : (s.setDe v).a = s.a := rfl
@[simp] theorem State.setDe_b (v : Word) : (s.setDe v).b = s.b := rfl
@[simp] theorem State.setDe_c (v : Word) : (s.setDe v).c = s.c := rfl
@[simp] theorem State.setDe_d (v : Word) : (s.setDe v).d = hi v := rfl
@[simp] theorem State.setDe_e (v : Word) : (s.setDe v).e = lo v := rfl
@[simp] theorem State.setDe_h (v : Word) : (s.setDe v).h = s.h := rfl
@[simp] theorem State.setDe_l (v : Word) : (s.setDe v).l = s.l := rfl
@[simp] theorem State.setDe_sp (v : Word) : (s.setDe v).sp = s.sp := rfl
@[simp] theorem State.setDe_pc (v : Word) : (s.setDe v).pc = s.pc := rfl
@[simp] theorem State.setDe_f (v : Word) : (s.setDe v).f = s.f := rfl
@[simp] theorem State.setDe_inte (v : Word) : (s.setDe v).inte = s.inte := rfl
@[simp] theorem State.setDe_halted (v : Word) : (s.setDe v).halted = s.halted := rfl
@[simp] theorem State.setDe_mem (v : Word) : (s.setDe v).mem = s.mem := rfl
@[simp] theorem State.setDe_params (v : Word) : (s.setDe v).params = s.params := rfl
@[simp] theorem State.setDe_signals (v : Word) : (s.setDe v).signals = s.signals := rfl
@[simp] theorem State.setDe_inputs (v : Word) : (s.setDe v).inputs = s.inputs := rfl
@[simp] theorem State.setDe_events (v : Word) : (s.setDe v).events = s.events := rfl
@[simp] theorem State.setDe_draws (v : Word) : (s.setDe v).draws = s.draws := rfl
@[simp] theorem State.setDe_justEi (v : Word) : (s.setDe v).justEi = s.justEi := rfl

/-! ### `setHl` -/

@[simp] theorem State.setHl_a (v : Word) : (s.setHl v).a = s.a := rfl
@[simp] theorem State.setHl_b (v : Word) : (s.setHl v).b = s.b := rfl
@[simp] theorem State.setHl_c (v : Word) : (s.setHl v).c = s.c := rfl
@[simp] theorem State.setHl_d (v : Word) : (s.setHl v).d = s.d := rfl
@[simp] theorem State.setHl_e (v : Word) : (s.setHl v).e = s.e := rfl
@[simp] theorem State.setHl_h (v : Word) : (s.setHl v).h = hi v := rfl
@[simp] theorem State.setHl_l (v : Word) : (s.setHl v).l = lo v := rfl
@[simp] theorem State.setHl_sp (v : Word) : (s.setHl v).sp = s.sp := rfl
@[simp] theorem State.setHl_pc (v : Word) : (s.setHl v).pc = s.pc := rfl
@[simp] theorem State.setHl_f (v : Word) : (s.setHl v).f = s.f := rfl
@[simp] theorem State.setHl_inte (v : Word) : (s.setHl v).inte = s.inte := rfl
@[simp] theorem State.setHl_halted (v : Word) : (s.setHl v).halted = s.halted := rfl
@[simp] theorem State.setHl_mem (v : Word) : (s.setHl v).mem = s.mem := rfl
@[simp] theorem State.setHl_params (v : Word) : (s.setHl v).params = s.params := rfl
@[simp] theorem State.setHl_signals (v : Word) : (s.setHl v).signals = s.signals := rfl
@[simp] theorem State.setHl_inputs (v : Word) : (s.setHl v).inputs = s.inputs := rfl
@[simp] theorem State.setHl_events (v : Word) : (s.setHl v).events = s.events := rfl
@[simp] theorem State.setHl_draws (v : Word) : (s.setHl v).draws = s.draws := rfl
@[simp] theorem State.setHl_justEi (v : Word) : (s.setHl v).justEi = s.justEi := rfl

/-! ### `setResult` -/

@[simp] theorem State.setResult_a (v : AluResult) : (s.setResult v).a = v.r := rfl
@[simp] theorem State.setResult_b (v : AluResult) : (s.setResult v).b = s.b := rfl
@[simp] theorem State.setResult_c (v : AluResult) : (s.setResult v).c = s.c := rfl
@[simp] theorem State.setResult_d (v : AluResult) : (s.setResult v).d = s.d := rfl
@[simp] theorem State.setResult_e (v : AluResult) : (s.setResult v).e = s.e := rfl
@[simp] theorem State.setResult_h (v : AluResult) : (s.setResult v).h = s.h := rfl
@[simp] theorem State.setResult_l (v : AluResult) : (s.setResult v).l = s.l := rfl
@[simp] theorem State.setResult_sp (v : AluResult) : (s.setResult v).sp = s.sp := rfl
@[simp] theorem State.setResult_pc (v : AluResult) : (s.setResult v).pc = s.pc := rfl
@[simp] theorem State.setResult_f (v : AluResult) : (s.setResult v).f = v.flags := rfl
@[simp] theorem State.setResult_inte (v : AluResult) : (s.setResult v).inte = s.inte := rfl
@[simp] theorem State.setResult_halted (v : AluResult) : (s.setResult v).halted = s.halted := rfl
@[simp] theorem State.setResult_mem (v : AluResult) : (s.setResult v).mem = s.mem := rfl
@[simp] theorem State.setResult_params (v : AluResult) : (s.setResult v).params = s.params := rfl
@[simp] theorem State.setResult_signals (v : AluResult) : (s.setResult v).signals = s.signals := rfl
@[simp] theorem State.setResult_inputs (v : AluResult) : (s.setResult v).inputs = s.inputs := rfl
@[simp] theorem State.setResult_events (v : AluResult) : (s.setResult v).events = s.events := rfl
@[simp] theorem State.setResult_draws (v : AluResult) : (s.setResult v).draws = s.draws := rfl
@[simp] theorem State.setResult_justEi (v : AluResult) : (s.setResult v).justEi = s.justEi := rfl

/-! ### `setCarry` -/

@[simp] theorem State.setCarry_a (v : Bool) : (s.setCarry v).a = s.a := rfl
@[simp] theorem State.setCarry_b (v : Bool) : (s.setCarry v).b = s.b := rfl
@[simp] theorem State.setCarry_c (v : Bool) : (s.setCarry v).c = s.c := rfl
@[simp] theorem State.setCarry_d (v : Bool) : (s.setCarry v).d = s.d := rfl
@[simp] theorem State.setCarry_e (v : Bool) : (s.setCarry v).e = s.e := rfl
@[simp] theorem State.setCarry_h (v : Bool) : (s.setCarry v).h = s.h := rfl
@[simp] theorem State.setCarry_l (v : Bool) : (s.setCarry v).l = s.l := rfl
@[simp] theorem State.setCarry_sp (v : Bool) : (s.setCarry v).sp = s.sp := rfl
@[simp] theorem State.setCarry_pc (v : Bool) : (s.setCarry v).pc = s.pc := rfl
@[simp] theorem State.setCarry_f (v : Bool) : (s.setCarry v).f = { s.f with c := v } := rfl
@[simp] theorem State.setCarry_inte (v : Bool) : (s.setCarry v).inte = s.inte := rfl
@[simp] theorem State.setCarry_halted (v : Bool) : (s.setCarry v).halted = s.halted := rfl
@[simp] theorem State.setCarry_mem (v : Bool) : (s.setCarry v).mem = s.mem := rfl
@[simp] theorem State.setCarry_params (v : Bool) : (s.setCarry v).params = s.params := rfl
@[simp] theorem State.setCarry_signals (v : Bool) : (s.setCarry v).signals = s.signals := rfl
@[simp] theorem State.setCarry_inputs (v : Bool) : (s.setCarry v).inputs = s.inputs := rfl
@[simp] theorem State.setCarry_events (v : Bool) : (s.setCarry v).events = s.events := rfl
@[simp] theorem State.setCarry_draws (v : Bool) : (s.setCarry v).draws = s.draws := rfl
@[simp] theorem State.setCarry_justEi (v : Bool) : (s.setCarry v).justEi = s.justEi := rfl

/-! ### `rotateTo` -/

@[simp] theorem State.rotateTo_a (v : Byte) (out : Bool) : (s.rotateTo v out).a = v := rfl
@[simp] theorem State.rotateTo_b (v : Byte) (out : Bool) : (s.rotateTo v out).b = s.b := rfl
@[simp] theorem State.rotateTo_c (v : Byte) (out : Bool) : (s.rotateTo v out).c = s.c := rfl
@[simp] theorem State.rotateTo_d (v : Byte) (out : Bool) : (s.rotateTo v out).d = s.d := rfl
@[simp] theorem State.rotateTo_e (v : Byte) (out : Bool) : (s.rotateTo v out).e = s.e := rfl
@[simp] theorem State.rotateTo_h (v : Byte) (out : Bool) : (s.rotateTo v out).h = s.h := rfl
@[simp] theorem State.rotateTo_l (v : Byte) (out : Bool) : (s.rotateTo v out).l = s.l := rfl
@[simp] theorem State.rotateTo_sp (v : Byte) (out : Bool) : (s.rotateTo v out).sp = s.sp := rfl
@[simp] theorem State.rotateTo_pc (v : Byte) (out : Bool) : (s.rotateTo v out).pc = s.pc := rfl
@[simp] theorem State.rotateTo_f (v : Byte) (out : Bool) : (s.rotateTo v out).f = { s.f with c := out } := rfl
@[simp] theorem State.rotateTo_inte (v : Byte) (out : Bool) : (s.rotateTo v out).inte = s.inte := rfl
@[simp] theorem State.rotateTo_halted (v : Byte) (out : Bool) : (s.rotateTo v out).halted = s.halted := rfl
@[simp] theorem State.rotateTo_mem (v : Byte) (out : Bool) : (s.rotateTo v out).mem = s.mem := rfl
@[simp] theorem State.rotateTo_params (v : Byte) (out : Bool) : (s.rotateTo v out).params = s.params := rfl
@[simp] theorem State.rotateTo_signals (v : Byte) (out : Bool) : (s.rotateTo v out).signals = s.signals := rfl
@[simp] theorem State.rotateTo_inputs (v : Byte) (out : Bool) : (s.rotateTo v out).inputs = s.inputs := rfl
@[simp] theorem State.rotateTo_events (v : Byte) (out : Bool) : (s.rotateTo v out).events = s.events := rfl
@[simp] theorem State.rotateTo_draws (v : Byte) (out : Bool) : (s.rotateTo v out).draws = s.draws := rfl
@[simp] theorem State.rotateTo_justEi (v : Byte) (out : Bool) : (s.rotateTo v out).justEi = s.justEi := rfl

/-! ### `setReg` and `reg` -/

@[simp] theorem State.setReg_sp (r : Reg) (v : Byte) : (s.setReg r v).sp = s.sp := by cases r <;> rfl
@[simp] theorem State.setReg_pc (r : Reg) (v : Byte) : (s.setReg r v).pc = s.pc := by cases r <;> rfl
@[simp] theorem State.setReg_f (r : Reg) (v : Byte) : (s.setReg r v).f = s.f := by cases r <;> rfl
@[simp] theorem State.setReg_inte (r : Reg) (v : Byte) : (s.setReg r v).inte = s.inte := by cases r <;> rfl
@[simp] theorem State.setReg_halted (r : Reg) (v : Byte) : (s.setReg r v).halted = s.halted := by cases r <;> rfl
@[simp] theorem State.setReg_mem (r : Reg) (v : Byte) : (s.setReg r v).mem = s.mem := by cases r <;> rfl
@[simp] theorem State.setReg_params (r : Reg) (v : Byte) : (s.setReg r v).params = s.params := by cases r <;> rfl
@[simp] theorem State.setReg_signals (r : Reg) (v : Byte) : (s.setReg r v).signals = s.signals := by cases r <;> rfl
@[simp] theorem State.setReg_inputs (r : Reg) (v : Byte) : (s.setReg r v).inputs = s.inputs := by cases r <;> rfl
@[simp] theorem State.setReg_events (r : Reg) (v : Byte) : (s.setReg r v).events = s.events := by cases r <;> rfl
@[simp] theorem State.setReg_draws (r : Reg) (v : Byte) : (s.setReg r v).draws = s.draws := by cases r <;> rfl
@[simp] theorem State.setReg_justEi (r : Reg) (v : Byte) : (s.setReg r v).justEi = s.justEi := by cases r <;> rfl

/-- A register reads as what was written to it; the others keep their content (R10). -/
@[simp] theorem State.reg_setReg (r q : Reg) (v : Byte) : (s.setReg r v).reg q = if q = r then v else s.reg q := by
  cases r <;> cases q <;> rfl

/-! ### `setPair` -/

@[simp] theorem State.setPair_a (r : Pair) (v : Word) : (s.setPair r v).a = s.a := by cases r <;> rfl
@[simp] theorem State.setPair_pc (r : Pair) (v : Word) : (s.setPair r v).pc = s.pc := by cases r <;> rfl
@[simp] theorem State.setPair_f (r : Pair) (v : Word) : (s.setPair r v).f = s.f := by cases r <;> rfl
@[simp] theorem State.setPair_inte (r : Pair) (v : Word) : (s.setPair r v).inte = s.inte := by cases r <;> rfl
@[simp] theorem State.setPair_halted (r : Pair) (v : Word) : (s.setPair r v).halted = s.halted := by cases r <;> rfl
@[simp] theorem State.setPair_mem (r : Pair) (v : Word) : (s.setPair r v).mem = s.mem := by cases r <;> rfl
@[simp] theorem State.setPair_params (r : Pair) (v : Word) : (s.setPair r v).params = s.params := by cases r <;> rfl
@[simp] theorem State.setPair_signals (r : Pair) (v : Word) : (s.setPair r v).signals = s.signals := by cases r <;> rfl
@[simp] theorem State.setPair_inputs (r : Pair) (v : Word) : (s.setPair r v).inputs = s.inputs := by cases r <;> rfl
@[simp] theorem State.setPair_events (r : Pair) (v : Word) : (s.setPair r v).events = s.events := by cases r <;> rfl
@[simp] theorem State.setPair_draws (r : Pair) (v : Word) : (s.setPair r v).draws = s.draws := by cases r <;> rfl
@[simp] theorem State.setPair_justEi (r : Pair) (v : Word) : (s.setPair r v).justEi = s.justEi := by cases r <;> rfl

/-! ### `setStackPair` -/

@[simp] theorem State.setStackPair_sp (r : StackPair) (v : Word) : (s.setStackPair r v).sp = s.sp := by cases r <;> rfl
@[simp] theorem State.setStackPair_pc (r : StackPair) (v : Word) : (s.setStackPair r v).pc = s.pc := by cases r <;> rfl
@[simp] theorem State.setStackPair_inte (r : StackPair) (v : Word) : (s.setStackPair r v).inte = s.inte := by cases r <;> rfl
@[simp] theorem State.setStackPair_halted (r : StackPair) (v : Word) : (s.setStackPair r v).halted = s.halted := by cases r <;> rfl
@[simp] theorem State.setStackPair_mem (r : StackPair) (v : Word) : (s.setStackPair r v).mem = s.mem := by cases r <;> rfl
@[simp] theorem State.setStackPair_params (r : StackPair) (v : Word) : (s.setStackPair r v).params = s.params := by cases r <;> rfl
@[simp] theorem State.setStackPair_signals (r : StackPair) (v : Word) : (s.setStackPair r v).signals = s.signals := by cases r <;> rfl
@[simp] theorem State.setStackPair_inputs (r : StackPair) (v : Word) : (s.setStackPair r v).inputs = s.inputs := by cases r <;> rfl
@[simp] theorem State.setStackPair_events (r : StackPair) (v : Word) : (s.setStackPair r v).events = s.events := by cases r <;> rfl
@[simp] theorem State.setStackPair_draws (r : StackPair) (v : Word) : (s.setStackPair r v).draws = s.draws := by cases r <;> rfl
@[simp] theorem State.setStackPair_justEi (r : StackPair) (v : Word) : (s.setStackPair r v).justEi = s.justEi := by cases r <;> rfl

/-! ### What reading a memory byte depends on -/

/-- `MEMMAP` is read through the parameters alone. -/
theorem State.kind_congr {s t : State} (h : t.params = s.params) : t.kind = s.kind := by
  funext x; simp only [State.kind, h]

/-- A read sees the parameters and the memory alone. -/
theorem State.read_congr {s t : State} (hp : t.params = s.params) (hm : t.mem = s.mem) : t.read = s.read := by
  funext x; simp only [State.read, State.kind, hp, hm]

@[simp] theorem State.setPc_read (v : Word) : (s.setPc v).read = s.read := rfl
@[simp] theorem State.setPc_kind (v : Word) : (s.setPc v).kind = s.kind := rfl
@[simp] theorem State.setSp_read (v : Word) : (s.setSp v).read = s.read := rfl
@[simp] theorem State.setSp_kind (v : Word) : (s.setSp v).kind = s.kind := rfl
@[simp] theorem State.setFlags_read (v : Flags) : (s.setFlags v).read = s.read := rfl
@[simp] theorem State.setFlags_kind (v : Flags) : (s.setFlags v).kind = s.kind := rfl
@[simp] theorem State.setInte_read (v : Bool) : (s.setInte v).read = s.read := rfl
@[simp] theorem State.setInte_kind (v : Bool) : (s.setInte v).kind = s.kind := rfl
@[simp] theorem State.setHalted_read (v : Bool) : (s.setHalted v).read = s.read := rfl
@[simp] theorem State.setHalted_kind (v : Bool) : (s.setHalted v).kind = s.kind := rfl
@[simp] theorem State.setMem_kind (v : Memory) : (s.setMem v).kind = s.kind := rfl
@[simp] theorem State.setJustEi_read (v : Bool) : (s.setJustEi v).read = s.read := rfl
@[simp] theorem State.setJustEi_kind (v : Bool) : (s.setJustEi v).kind = s.kind := rfl
@[simp] theorem State.addEvent_read (v : Event) : (s.addEvent v).read = s.read := rfl
@[simp] theorem State.addEvent_kind (v : Event) : (s.addEvent v).kind = s.kind := rfl
@[simp] theorem State.dropSample_read  : (s.dropSample).read = s.read := rfl
@[simp] theorem State.dropSample_kind  : (s.dropSample).kind = s.kind := rfl
@[simp] theorem State.setBc_read (v : Word) : (s.setBc v).read = s.read := rfl
@[simp] theorem State.setBc_kind (v : Word) : (s.setBc v).kind = s.kind := rfl
@[simp] theorem State.setDe_read (v : Word) : (s.setDe v).read = s.read := rfl
@[simp] theorem State.setDe_kind (v : Word) : (s.setDe v).kind = s.kind := rfl
@[simp] theorem State.setHl_read (v : Word) : (s.setHl v).read = s.read := rfl
@[simp] theorem State.setHl_kind (v : Word) : (s.setHl v).kind = s.kind := rfl
@[simp] theorem State.setReg_read (r : Reg) (v : Byte) : (s.setReg r v).read = s.read := by cases r <;> rfl
@[simp] theorem State.setReg_kind (r : Reg) (v : Byte) : (s.setReg r v).kind = s.kind := by cases r <;> rfl
@[simp] theorem State.setPair_read (r : Pair) (v : Word) : (s.setPair r v).read = s.read := by cases r <;> rfl
@[simp] theorem State.setPair_kind (r : Pair) (v : Word) : (s.setPair r v).kind = s.kind := by cases r <;> rfl

end Sys2Proof.Machine
end

