-- ==== Sys2Proof/Laws/Ops.lean ====
section
/-! SUPPORT. One lemma for each shared operation that says all it can do: later proofs cite it and do not unfold it. -/

namespace Sys2Proof.Machine

@[simp] theorem ok_bind {α β : Type} (a : α) (k : α → Except Fault β) : (Except.ok a >>= k) = k a := rfl
@[simp] theorem error_bind {α β : Type} (e : Fault) (k : α → Except Fault β) : (Except.error e >>= k) = .error e := rfl

/-- A chain that ends well has a first part that ends well. -/
theorem bind_eq_ok {α β : Type} {x : Except Fault α} {k : α → Except Fault β} {b : β} :
    (x >>= k) = .ok b ↔ ∃ a, x = .ok a ∧ k a = .ok b := by
  cases x <;> simp

@[simp] theorem outcome_ok (s : State) : outcome (.ok s) = .next s := rfl
@[simp] theorem outcome_error (e : Fault) : outcome (.error e) = .fault e := rfl

@[simp] theorem outcome_eq_next {x : Except Fault State} {t : State} : outcome x = .next t ↔ x = .ok t := by
  cases x <;> simp [outcome]

@[simp] theorem outcome_eq_fault {x : Except Fault State} {e : Fault} : outcome x = .fault e ↔ x = .error e := by
  cases x <;> simp [outcome]

/-! ## Memory -/

/-- A read that answers `v`: the cell exists and lists `v`. -/
theorem State.read_eq_ok {s : State} {x : Word} {v : Byte} :
    s.read x = .ok v ↔ s.kind x ≠ .absent ∧ s.mem.read x.toNat = some v := by
  unfold State.read
  cases s.kind x <;> cases s.mem.read x.toNat <;> simp

/-- A write that answers `t`: the cell is RAM and `t` has the byte in it. -/
theorem State.write_eq_ok {s t : State} {x : Word} {v : Byte} :
    s.write x v = .ok t ↔ s.kind x = .ram ∧ t = s.setMem (s.mem.write x.toNat v) := by
  unfold State.write
  cases s.kind x <;> simp [eq_comm]

/-- A write to RAM goes through. -/
theorem State.write_ram {s : State} {x : Word} (h : s.kind x = .ram) (v : Byte) :
    s.write x v = .ok (s.setMem (s.mem.write x.toNat v)) := State.write_eq_ok.2 ⟨h, rfl⟩

/-- What a byte reads as after a byte was stored in RAM. -/
theorem State.read_setMem_write {s : State} {x : Word} (h : s.kind x = .ram) (y : Word) (v : Byte) :
    (s.setMem (s.mem.write x.toNat v)).read y = if y = x then .ok v else s.read y := by
  unfold State.read
  rw [State.setMem_kind, State.setMem_mem, Memory.read_write]
  by_cases hy : y = x
  · subst hy; simp [h]
  · rw [if_neg (fun hh => hy (BitVec.eq_of_toNat_eq hh)), if_neg hy]

/-! ## The stack -/

/-- A push that answers `t`: both cells are RAM, and `t` has the two bytes and the new SP (R28). -/
theorem State.push16_eq_ok {s t : State} {v : Word} :
    s.push16 v = .ok t ↔ s.kind (s.sp - 1) = .ram ∧ s.kind (s.sp - 2) = .ram ∧
      t = (s.setMem ((s.mem.write (s.sp - 1).toNat (hi v)).write (s.sp - 2).toNat (lo v))).setSp (s.sp - 2) := by
  unfold State.push16
  simp only [bind_eq_ok, State.write_eq_ok]
  constructor
  · rintro ⟨u, ⟨h1, rfl⟩, w, ⟨h2, rfl⟩, h3⟩
    cases h3
    exact ⟨h1, h2, rfl⟩
  · rintro ⟨h1, h2, rfl⟩
    exact ⟨_, ⟨h1, rfl⟩, _, ⟨h2, rfl⟩, rfl⟩

/-- A pop that answers (`v`, `t`): both cells read, and only SP moves (R29). -/
theorem State.pop16_eq_ok {s t : State} {v : Word} :
    s.pop16 = .ok (v, t) ↔ ∃ low high, s.read s.sp = .ok low ∧ s.read (s.sp + 1) = .ok high ∧
      v = cat high low ∧ t = s.setSp (s.sp + 2) := by
  unfold State.pop16
  simp only [bind_eq_ok, Except.ok.injEq, Prod.mk.injEq]
  constructor
  · rintro ⟨low, h1, high, h2, rfl, rfl⟩; exact ⟨low, high, h1, h2, rfl, rfl⟩
  · rintro ⟨low, high, h1, h2, rfl, rfl⟩; exact ⟨low, h1, high, h2, rfl, rfl⟩

/-! ## Operands -/

/-- Reading an 8-bit operand: a register always reads, M reads the byte at HL (R10). -/
@[simp] theorem State.rd8_reg (s : State) (r : Reg) : s.rd8 (.reg r) = .ok (s.reg r) := rfl
@[simp] theorem State.rd8_m (s : State) : s.rd8 .m = s.read s.hl := rfl
@[simp] theorem State.wr8_reg (s : State) (r : Reg) (v : Byte) : s.wr8 (.reg r) v = .ok (s.setReg r v) := rfl
@[simp] theorem State.wr8_m (s : State) (v : Byte) : s.wr8 .m v = s.write s.hl v := rfl

/-! ## Free values, flags of logic and of comparison -/

/-- `AC_LOGIC` changes nothing but the count of draws. -/
theorem State.acLogic_frame (s : State) (op : LogicOp) (x y : Byte) :
    ∃ n, (s.acLogic op x y).2 = { s with draws := n } := by
  unfold State.acLogic State.drawBit
  cases s.params.acLogic
  · exact ⟨_, rfl⟩
  · exact ⟨s.draws, rfl⟩
  · cases op <;> exact ⟨s.draws, rfl⟩

/-- The result of AND or exclusive OR writes A, the flags and the count of draws. -/
theorem State.setLogic_frame (s : State) (op : LogicOp) (v r : Byte) :
    ∃ ac n, s.setLogic op v r = { s with a := r, f := (AluResult.mk r false ac).flags, draws := n } := by
  obtain ⟨n, h⟩ := s.acLogic_frame op s.a v
  unfold State.setLogic
  generalize s.acLogic op s.a v = x at h
  obtain ⟨ac, t⟩ := x
  dsimp only at h
  subst h
  exact ⟨ac, n, rfl⟩

/-- A comparison writes the flags and the count of draws; z and c are those of the difference. -/
theorem State.setCompare_frame (s : State) (x : AluResult) :
    ∃ f n, s.setCompare x = { s with f := f, draws := n } ∧ f.z = (x.r == 0) ∧ f.c = x.c := by
  unfold State.setCompare
  cases s.params.cmpFlags
  · exact ⟨_, s.draws, rfl, rfl, rfl⟩
  · exact ⟨_, _, rfl, rfl, rfl⟩

/-! ## Ports -/

/-- A port read takes one byte off the schedule, or draws one, and records the event. -/
theorem State.ioRead_frame (s : State) (port : Byte) :
    ∃ v ins n, s.ioRead port = (v, { s with inputs := ins, draws := n, events := s.events ++ [.input port v] }) := by
  unfold State.ioRead
  split
  · exact ⟨_, _, s.draws, rfl⟩
  · exact ⟨_, s.inputs, _, rfl⟩

/-! ## Restart, interrupt entry, return -/

/-- A restart that answers `t`: pc on the stack, SP lower by two, pc at area N (R229). -/
theorem State.restart_eq_ok {s t : State} {n : BitVec 3} :
    s.restart n = .ok t ↔ ∃ u, s.push16 s.pc = .ok u ∧ t = u.setPc (restartVector n) := by
  unfold State.restart
  simp only [bind_eq_ok, Except.ok.injEq]
  exact exists_congr fun _ => and_congr_right fun _ => eq_comm

/-- Interrupt entry that answers `t` (R256). -/
theorem State.takeInterrupt_eq_ok {s t : State} {n : BitVec 3} :
    s.takeInterrupt n = .ok t ↔ ∃ u, (s.setHalted false).push16 s.pc = .ok u ∧
      t = (((u.setPc (restartVector n)).setInte false).setJustEi false).addEvent (.interrupt n) := by
  unfold State.takeInterrupt
  simp only [bind_eq_ok, Except.ok.injEq, State.restart_eq_ok, State.setHalted_pc]
  constructor
  · rintro ⟨_, ⟨u, h, rfl⟩, rfl⟩; exact ⟨u, h, rfl⟩
  · rintro ⟨u, h, rfl⟩; exact ⟨_, ⟨u, h, rfl⟩, rfl⟩

/-- A return that answers `t` (R203). -/
theorem State.returnToCaller_eq_ok {s t : State} :
    s.returnToCaller = .ok t ↔ ∃ v u, s.pop16 = .ok (v, u) ∧ t = u.setPc v := by
  unfold State.returnToCaller
  simp only [bind_eq_ok, Prod.exists, Except.ok.injEq]
  exact exists_congr fun _ => exists_congr fun _ => and_congr_right fun _ => eq_comm

/-- A call that answers `t` (R202). -/
theorem State.callTo_eq_ok {s t : State} {target : Word} :
    s.callTo target = .ok t ↔ ∃ u, s.push16 s.pc = .ok u ∧ t = u.setPc target := by
  unfold State.callTo
  simp only [bind_eq_ok, Except.ok.injEq]
  exact exists_congr fun _ => and_congr_right fun _ => eq_comm

/-! ## The fetch -/

/-- A byte fetch that answers (`v`, `t`): the byte at pc, and pc one further (R92). -/
theorem State.fetch8_eq_ok {s t : State} {v : Byte} :
    s.fetch8 = .ok (v, t) ↔ s.read s.pc = .ok v ∧ t = s.setPc (s.pc + 1) := by
  unfold State.fetch8
  simp only [bind_eq_ok, Except.ok.injEq, Prod.mk.injEq]
  constructor
  · rintro ⟨w, h, rfl, rfl⟩; exact ⟨h, rfl⟩
  · rintro ⟨h, rfl⟩; exact ⟨v, h, rfl, rfl⟩

/-- A fetch of two bytes that answers (`v`, `t`): they read, and only pc moves (R96). -/
theorem State.fetch16_eq_ok {s t : State} {v : Word} :
    s.fetch16 = .ok (v, t) ↔ ∃ low high, s.read s.pc = .ok low ∧ s.read (s.pc + 1) = .ok high ∧
      v = cat high low ∧ t = s.setPc (s.pc + 1 + 1) := by
  unfold State.fetch16
  simp only [bind_eq_ok, Prod.exists, Except.ok.injEq, Prod.mk.injEq]
  constructor
  · rintro ⟨low, u, h1, high, w, h2, rfl, rfl⟩
    obtain ⟨r1, rfl⟩ := State.fetch8_eq_ok.1 h1
    obtain ⟨r2, rfl⟩ := State.fetch8_eq_ok.1 h2
    exact ⟨low, high, r1, r2, rfl, rfl⟩
  · rintro ⟨low, high, h1, h2, rfl, rfl⟩
    exact ⟨low, _, State.fetch8_eq_ok.2 ⟨h1, rfl⟩, high, _, State.fetch8_eq_ok.2 ⟨h2, rfl⟩, rfl, rfl⟩

/-- Fetching an operand byte moves pc at most. -/
theorem State.fetchIf_frame {s t : State} {present : Bool} {v : Byte} (h : s.fetchIf present = .ok (v, t)) :
    t = s.setPc t.pc := by
  unfold State.fetchIf at h
  split at h
  · obtain ⟨-, rfl⟩ := State.fetch8_eq_ok.1 h; rfl
  · cases h; rfl

/-- Fetching an instruction moves pc and changes nothing else (R92). -/
theorem State.fetchInstr_frame {s t : State} {i : Instr} (h : s.fetchInstr = .ok (i, t)) : t = s.setPc t.pc := by
  unfold State.fetchInstr at h
  obtain ⟨⟨op, s1⟩, h1, k1⟩ := bind_eq_ok.1 h
  dsimp only at k1
  obtain ⟨⟨b2, s2⟩, h2, k2⟩ := bind_eq_ok.1 k1
  dsimp only at k2
  obtain ⟨⟨b3, s3⟩, h3, k3⟩ := bind_eq_ok.1 k2
  obtain ⟨-, rfl⟩ := State.fetch8_eq_ok.1 h1
  have e2 := State.fetchIf_frame h2
  have e3 := State.fetchIf_frame h3
  cases k3
  rw [e3, e2]; rfl

/-! ## Reserved first bytes -/

/-- All a reserved first byte can do that goes on: nothing, a jump, a call or a return, as `UNDOC_OPCODES` says (R104). -/
theorem reservedByte_eq_next {op : Byte} {s t : State} (h : reservedByte op s = .next t) :
    (undocEffect s.params.undocOpcodes op = .nop ∧ t = s) ∨
    (undocEffect s.params.undocOpcodes op = .jump ∧ ∃ v u, s.fetch16 = .ok (v, u) ∧ t = u.setPc v) ∨
    (undocEffect s.params.undocOpcodes op = .call ∧ ∃ v u, s.fetch16 = .ok (v, u) ∧ u.callTo v = .ok t) ∨
    (undocEffect s.params.undocOpcodes op = .ret ∧ s.returnToCaller = .ok t) := by
  unfold reservedByte at h
  split at h
  · cases h
  · cases h; exact .inl ⟨by assumption, rfl⟩
  · obtain ⟨⟨v, u⟩, h1, h2⟩ := bind_eq_ok.1 (outcome_eq_next.1 h)
    cases h2; exact .inr (.inl ⟨by assumption, v, u, h1, rfl⟩)
  · obtain ⟨⟨v, u⟩, h1, h2⟩ := bind_eq_ok.1 (outcome_eq_next.1 h)
    exact .inr (.inr (.inl ⟨by assumption, v, u, h1, h2⟩))
  · exact .inr (.inr (.inr ⟨by assumption, outcome_eq_next.1 h⟩))

/-! ## The reset event -/

/-- The reset event with `RESET_VALUES` supplied (R48, R280). -/
theorem State.resetEvent_some {s : State} {v : ResetValues} (h : s.params.resetValues = some v) :
    s.resetEvent = { s.setRegisters v with pc := 0, inte := false, halted := false, justEi := false } := by
  simp only [State.resetEvent, State.resetRegisters, h]

/-- The reset event with `RESET_VALUES = none`: thirteen free values (R281, U4). -/
theorem State.resetEvent_none {s : State} (h : s.params.resetValues = none) :
    s.resetEvent = { s.setRegisters (drawnValues s.draws) with
      pc := 0, inte := false, halted := false, draws := s.draws + 13, justEi := false } := by
  simp only [State.resetEvent, State.resetRegisters, h]

/-- In either case the reset event writes the registers, pc, `inte`, `halted` and the model's count and mark. -/
theorem State.resetEvent_frame (s : State) : ∃ v n, s.resetEvent =
    { s.setRegisters v with pc := 0, inte := false, halted := false, draws := n, justEi := false } := by
  cases h : s.params.resetValues with
  | none => exact ⟨_, _, State.resetEvent_none h⟩
  | some v => exact ⟨v, s.draws, State.resetEvent_some h⟩

/-! ## One step -/

/-- All a step can do (R254, R258): the reset event, an interrupt entry, the halt going on, or one instruction. -/
theorem step_eq_next {s t : State} (h : step s = .next t) :
    (s.sample.resetLine = true ∧ t = s.dropSample.resetEvent) ∨
    (s.sample.resetLine = false ∧ ∃ byte n, s.sample.intr = some byte ∧ s.dropSample.accepts = true ∧
      restartNumber byte = some n ∧ s.dropSample.takeInterrupt n = .ok t) ∨
    (s.sample.resetLine = false ∧ s.halted = true ∧ t = s.dropSample) ∨
    (s.sample.resetLine = false ∧ s.halted = false ∧ ∃ i u, s.dropSample.fetchInstr = .ok (i, u) ∧
      exec i (u.setJustEi false) = .next t) := by
  have run : ∀ t, continueRun s.dropSample = .next t →
      (s.halted = true ∧ t = s.dropSample) ∨
      (s.halted = false ∧ ∃ i u, s.dropSample.fetchInstr = .ok (i, u) ∧ exec i (u.setJustEi false) = .next t) := by
    intro t h
    unfold continueRun runInstr at h
    split at h
    · cases h; exact .inl ⟨by assumption, rfl⟩
    · split at h
      · exact .inr ⟨by simp_all, _, _, by assumption, h⟩
      · cases h
  unfold step cycle at h
  simp only at h
  split at h
  · cases h; exact .inl ⟨by assumption, rfl⟩
  · have hr : s.sample.resetLine = false := by simp_all
    split at h
    · split at h
      · unfold acceptRequest at h
        split at h
        · exact .inr (.inl ⟨hr, _, _, by assumption, by assumption, by assumption, outcome_eq_next.1 h⟩)
        · cases h
      · rcases run t h with ⟨h1, h2⟩ | h1
        · exact .inr (.inr (.inl ⟨hr, h1, h2⟩))
        · exact .inr (.inr (.inr ⟨hr, h1⟩))
    · rcases run t h with ⟨h1, h2⟩ | h1
      · exact .inr (.inr (.inl ⟨hr, h1, h2⟩))
      · exact .inr (.inr (.inr ⟨hr, h1⟩))

end Sys2Proof.Machine
end

