-- ==== Sys2Proof/Laws/Families.lean ====
section
/-! SUPPORT. The 256 constructors by family: what `exec` is on a cell of a family, and a case split over the families, so
that a proof about every instruction treats each shape once. -/

namespace Sys2Proof.Machine

theorem bitVec3_cases : ∀ n : BitVec 3, n = 0 ∨ n = 1 ∨ n = 2 ∨ n = 3 ∨ n = 4 ∨ n = 5 ∨ n = 6 ∨ n = 7 := by decide

/-- What the operation `op` does with A and the byte `v` (R150 to R171). -/
def aluByte (op : AluOp) (v : Byte) (s : State) : State :=
  match op with
  | .add => addByte v s | .adc => adcByte v s | .sub => subByte v s | .sbb => sbbByte v s
  | .ana => anaByte v s | .xra => xraByte v s | .ora => oraByte v s | .cmp => cmpByte v s

variable (s : State)

theorem exec_movRR (q r : Reg) : exec (Instr.movRR q r) s = moveReg q r s := by cases q <;> cases r <;> rfl
theorem exec_movRM (r : Reg) : exec (Instr.movRM r) s = loadReg r s := by cases r <;> rfl
theorem exec_movMR (r : Reg) : exec (Instr.movMR r) s = storeReg r s := by cases r <;> rfl
theorem exec_mvi (x : Operand8) (v : Byte) : exec (Instr.mvi x v) s = moveImm x v s := by rcases x with r | _; cases r; all_goals rfl
theorem exec_alu (op : AluOp) (x : Operand8) : exec (Instr.alu op x) s = withOperand x (aluByte op) s := by rcases x with r | _; cases op <;> cases r <;> rfl; cases op <;> rfl
theorem exec_aluImm (op : AluOp) (v : Byte) : exec (Instr.aluImm op v) s = .next (aluByte op v s) := by cases op <;> rfl
theorem exec_inr (x : Operand8) : exec (Instr.inr x) s = increment x s := by rcases x with r | _; cases r; all_goals rfl
theorem exec_dcr (x : Operand8) : exec (Instr.dcr x) s = decrement x s := by rcases x with r | _; cases r; all_goals rfl
theorem exec_lxi (r : Pair) (v : Word) : exec (Instr.lxi r v) s = loadPairImm r v s := by cases r <;> rfl
theorem exec_dad (r : Pair) : exec (Instr.dad r) s = addPair r s := by cases r <;> rfl
theorem exec_inx (r : Pair) : exec (Instr.inx r) s = incrementPair r s := by cases r <;> rfl
theorem exec_dcx (r : Pair) : exec (Instr.dcx r) s = decrementPair r s := by cases r <;> rfl
theorem exec_push (r : StackPair) : exec (Instr.push r) s = pushPair r s := by cases r <;> rfl
theorem exec_pop (r : StackPair) : exec (Instr.pop r) s = popPair r s := by cases r <;> rfl
theorem exec_stax (r : IndirectPair) : exec (Instr.stax r) s = storeIndirect r s := by cases r <;> rfl
theorem exec_ldax (r : IndirectPair) : exec (Instr.ldax r) s = loadIndirect r s := by cases r <;> rfl
theorem exec_jumpIf (k : Cond) (v : Word) : exec (Instr.jumpIf k v) s = Machine.jumpIf k v s := by cases k <;> rfl
theorem exec_callIf (k : Cond) (v : Word) : exec (Instr.callIf k v) s = Machine.callIf k v s := by cases k <;> rfl
theorem exec_returnIf (k : Cond) : exec (Instr.returnIf k) s = Machine.returnIf k s := by cases k <;> rfl
theorem exec_rst (n : BitVec 3) : exec (Instr.rst n) s = restartByProgram n s := by rcases bitVec3_cases n with rfl | rfl | rfl | rfl | rfl | rfl | rfl | rfl <;> rfl

/-- The instruction has one of the twelve reserved first bytes, and its meaning is what `UNDOC_OPCODES` says of it (R104). -/
theorem exec_reserved (i : Instr) (h : i.isReserved = true) : ∃ op, encode i = [op] ∧ exec i s = reservedByte op s := by
  simp only [Instr.isReserved, List.contains_eq_mem, List.mem_cons, List.not_mem_nil, or_false, decide_eq_true_eq] at h
  rcases h with rfl | rfl | rfl | rfl | rfl | rfl | rfl | rfl | rfl | rfl | rfl | rfl <;> exact ⟨_, rfl, rfl⟩

/-- A case split over the families: what holds of every cell of every family holds of every instruction. -/
theorem Instr.byFamily {P : Instr → Prop}
    (h_movRR : ∀ (q r : Reg), P (Instr.movRR q r))
    (h_movRM : ∀ (r : Reg), P (Instr.movRM r))
    (h_movMR : ∀ (r : Reg), P (Instr.movMR r))
    (h_mvi : ∀ (x : Operand8) (v : Byte), P (Instr.mvi x v))
    (h_alu : ∀ (op : AluOp) (x : Operand8), P (Instr.alu op x))
    (h_aluImm : ∀ (op : AluOp) (v : Byte), P (Instr.aluImm op v))
    (h_inr : ∀ (x : Operand8), P (Instr.inr x))
    (h_dcr : ∀ (x : Operand8), P (Instr.dcr x))
    (h_lxi : ∀ (r : Pair) (v : Word), P (Instr.lxi r v))
    (h_dad : ∀ (r : Pair), P (Instr.dad r))
    (h_inx : ∀ (r : Pair), P (Instr.inx r))
    (h_dcx : ∀ (r : Pair), P (Instr.dcx r))
    (h_push : ∀ (r : StackPair), P (Instr.push r))
    (h_pop : ∀ (r : StackPair), P (Instr.pop r))
    (h_stax : ∀ (r : IndirectPair), P (Instr.stax r))
    (h_ldax : ∀ (r : IndirectPair), P (Instr.ldax r))
    (h_jumpIf : ∀ (k : Cond) (v : Word), P (Instr.jumpIf k v))
    (h_callIf : ∀ (k : Cond) (v : Word), P (Instr.callIf k v))
    (h_returnIf : ∀ (k : Cond), P (Instr.returnIf k))
    (h_rst : ∀ (n : BitVec 3), P (Instr.rst n))
    (h_nop : P .nop)
    (h_rlc : P .rlc)
    (h_rrc : P .rrc)
    (h_ral : P .ral)
    (h_rar : P .rar)
    (h_shld : ∀ adr, P (.shld adr))
    (h_daa : P .daa)
    (h_lhld : ∀ adr, P (.lhld adr))
    (h_cma : P .cma)
    (h_sta : ∀ adr, P (.sta adr))
    (h_stc : P .stc)
    (h_lda : ∀ adr, P (.lda adr))
    (h_cmc : P .cmc)
    (h_hlt : P .hlt)
    (h_jmp : ∀ adr, P (.jmp adr))
    (h_ret : P .ret)
    (h_call : ∀ adr, P (.call adr))
    (h_outPort : ∀ port, P (.outPort port))
    (h_inPort : ∀ port, P (.inPort port))
    (h_xthl : P .xthl)
    (h_pchl : P .pchl)
    (h_xchg : P .xchg)
    (h_di : P .di)
    (h_sphl : P .sphl)
    (h_ei : P .ei)
    (h_reserved : ∀ i : Instr, i.isReserved = true → P i)
    (i : Instr) : P i :=
  match i with
  | .nop => h_nop | .lxiB d16 => h_lxi .b d16 | .staxB => h_stax .b | .inxB => h_inx .b | .inrB => h_inr (.reg .b)
  | .dcrB => h_dcr (.reg .b) | .mviB d8 => h_mvi (.reg .b) d8 | .rlc => h_rlc | .reserved08 => h_reserved _ rfl
  | .dadB => h_dad .b | .ldaxB => h_ldax .b | .dcxB => h_dcx .b | .inrC => h_inr (.reg .c)
  | .dcrC => h_dcr (.reg .c) | .mviC d8 => h_mvi (.reg .c) d8 | .rrc => h_rrc | .reserved10 => h_reserved _ rfl
  | .lxiD d16 => h_lxi .d d16 | .staxD => h_stax .d | .inxD => h_inx .d | .inrD => h_inr (.reg .d)
  | .dcrD => h_dcr (.reg .d) | .mviD d8 => h_mvi (.reg .d) d8 | .ral => h_ral | .reserved18 => h_reserved _ rfl
  | .dadD => h_dad .d | .ldaxD => h_ldax .d | .dcxD => h_dcx .d | .inrE => h_inr (.reg .e)
  | .dcrE => h_dcr (.reg .e) | .mviE d8 => h_mvi (.reg .e) d8 | .rar => h_rar | .reserved20 => h_reserved _ rfl
  | .lxiH d16 => h_lxi .h d16 | .shld adr => h_shld adr | .inxH => h_inx .h | .inrH => h_inr (.reg .h)
  | .dcrH => h_dcr (.reg .h) | .mviH d8 => h_mvi (.reg .h) d8 | .daa => h_daa | .reserved28 => h_reserved _ rfl
  | .dadH => h_dad .h | .lhld adr => h_lhld adr | .dcxH => h_dcx .h | .inrL => h_inr (.reg .l)
  | .dcrL => h_dcr (.reg .l) | .mviL d8 => h_mvi (.reg .l) d8 | .cma => h_cma | .reserved30 => h_reserved _ rfl
  | .lxiSp d16 => h_lxi .sp d16 | .sta adr => h_sta adr | .inxSp => h_inx .sp | .inrM => h_inr .m
  | .dcrM => h_dcr .m | .mviM d8 => h_mvi .m d8 | .stc => h_stc | .reserved38 => h_reserved _ rfl
  | .dadSp => h_dad .sp | .lda adr => h_lda adr | .dcxSp => h_dcx .sp | .inrA => h_inr (.reg .a)
  | .dcrA => h_dcr (.reg .a) | .mviA d8 => h_mvi (.reg .a) d8 | .cmc => h_cmc | .movBB => h_movRR .b .b
  | .movBC => h_movRR .b .c | .movBD => h_movRR .b .d | .movBE => h_movRR .b .e | .movBH => h_movRR .b .h
  | .movBL => h_movRR .b .l | .movBM => h_movRM .b | .movBA => h_movRR .b .a | .movCB => h_movRR .c .b
  | .movCC => h_movRR .c .c | .movCD => h_movRR .c .d | .movCE => h_movRR .c .e | .movCH => h_movRR .c .h
  | .movCL => h_movRR .c .l | .movCM => h_movRM .c | .movCA => h_movRR .c .a | .movDB => h_movRR .d .b
  | .movDC => h_movRR .d .c | .movDD => h_movRR .d .d | .movDE => h_movRR .d .e | .movDH => h_movRR .d .h
  | .movDL => h_movRR .d .l | .movDM => h_movRM .d | .movDA => h_movRR .d .a | .movEB => h_movRR .e .b
  | .movEC => h_movRR .e .c | .movED => h_movRR .e .d | .movEE => h_movRR .e .e | .movEH => h_movRR .e .h
  | .movEL => h_movRR .e .l | .movEM => h_movRM .e | .movEA => h_movRR .e .a | .movHB => h_movRR .h .b
  | .movHC => h_movRR .h .c | .movHD => h_movRR .h .d | .movHE => h_movRR .h .e | .movHH => h_movRR .h .h
  | .movHL => h_movRR .h .l | .movHM => h_movRM .h | .movHA => h_movRR .h .a | .movLB => h_movRR .l .b
  | .movLC => h_movRR .l .c | .movLD => h_movRR .l .d | .movLE => h_movRR .l .e | .movLH => h_movRR .l .h
  | .movLL => h_movRR .l .l | .movLM => h_movRM .l | .movLA => h_movRR .l .a | .movMB => h_movMR .b
  | .movMC => h_movMR .c | .movMD => h_movMR .d | .movME => h_movMR .e | .movMH => h_movMR .h | .movML => h_movMR .l
  | .hlt => h_hlt | .movMA => h_movMR .a | .movAB => h_movRR .a .b | .movAC => h_movRR .a .c
  | .movAD => h_movRR .a .d | .movAE => h_movRR .a .e | .movAH => h_movRR .a .h | .movAL => h_movRR .a .l
  | .movAM => h_movRM .a | .movAA => h_movRR .a .a | .addB => h_alu .add (.reg .b) | .addC => h_alu .add (.reg .c)
  | .addD => h_alu .add (.reg .d) | .addE => h_alu .add (.reg .e) | .addH => h_alu .add (.reg .h)
  | .addL => h_alu .add (.reg .l) | .addM => h_alu .add .m | .addA => h_alu .add (.reg .a)
  | .adcB => h_alu .adc (.reg .b) | .adcC => h_alu .adc (.reg .c) | .adcD => h_alu .adc (.reg .d)
  | .adcE => h_alu .adc (.reg .e) | .adcH => h_alu .adc (.reg .h) | .adcL => h_alu .adc (.reg .l)
  | .adcM => h_alu .adc .m | .adcA => h_alu .adc (.reg .a) | .subB => h_alu .sub (.reg .b)
  | .subC => h_alu .sub (.reg .c) | .subD => h_alu .sub (.reg .d) | .subE => h_alu .sub (.reg .e)
  | .subH => h_alu .sub (.reg .h) | .subL => h_alu .sub (.reg .l) | .subM => h_alu .sub .m
  | .subA => h_alu .sub (.reg .a) | .sbbB => h_alu .sbb (.reg .b) | .sbbC => h_alu .sbb (.reg .c)
  | .sbbD => h_alu .sbb (.reg .d) | .sbbE => h_alu .sbb (.reg .e) | .sbbH => h_alu .sbb (.reg .h)
  | .sbbL => h_alu .sbb (.reg .l) | .sbbM => h_alu .sbb .m | .sbbA => h_alu .sbb (.reg .a)
  | .anaB => h_alu .ana (.reg .b) | .anaC => h_alu .ana (.reg .c) | .anaD => h_alu .ana (.reg .d)
  | .anaE => h_alu .ana (.reg .e) | .anaH => h_alu .ana (.reg .h) | .anaL => h_alu .ana (.reg .l)
  | .anaM => h_alu .ana .m | .anaA => h_alu .ana (.reg .a) | .xraB => h_alu .xra (.reg .b)
  | .xraC => h_alu .xra (.reg .c) | .xraD => h_alu .xra (.reg .d) | .xraE => h_alu .xra (.reg .e)
  | .xraH => h_alu .xra (.reg .h) | .xraL => h_alu .xra (.reg .l) | .xraM => h_alu .xra .m
  | .xraA => h_alu .xra (.reg .a) | .oraB => h_alu .ora (.reg .b) | .oraC => h_alu .ora (.reg .c)
  | .oraD => h_alu .ora (.reg .d) | .oraE => h_alu .ora (.reg .e) | .oraH => h_alu .ora (.reg .h)
  | .oraL => h_alu .ora (.reg .l) | .oraM => h_alu .ora .m | .oraA => h_alu .ora (.reg .a)
  | .cmpB => h_alu .cmp (.reg .b) | .cmpC => h_alu .cmp (.reg .c) | .cmpD => h_alu .cmp (.reg .d)
  | .cmpE => h_alu .cmp (.reg .e) | .cmpH => h_alu .cmp (.reg .h) | .cmpL => h_alu .cmp (.reg .l)
  | .cmpM => h_alu .cmp .m | .cmpA => h_alu .cmp (.reg .a) | .rnz => h_returnIf .nz | .popB => h_pop .b
  | .jnz adr => h_jumpIf .nz adr | .jmp adr => h_jmp adr | .cnz adr => h_callIf .nz adr | .pushB => h_push .b
  | .adi d8 => h_aluImm .add d8 | .rst0 => h_rst 0 | .rz => h_returnIf .z | .ret => h_ret
  | .jz adr => h_jumpIf .z adr | .reservedCB => h_reserved _ rfl | .cz adr => h_callIf .z adr
  | .call adr => h_call adr | .aci d8 => h_aluImm .adc d8 | .rst1 => h_rst 1 | .rnc => h_returnIf .nc
  | .popD => h_pop .d | .jnc adr => h_jumpIf .nc adr | .outPort port => h_outPort port
  | .cnc adr => h_callIf .nc adr | .pushD => h_push .d | .sui d8 => h_aluImm .sub d8 | .rst2 => h_rst 2
  | .rc => h_returnIf .c | .reservedD9 => h_reserved _ rfl | .jc adr => h_jumpIf .c adr
  | .inPort port => h_inPort port | .cc adr => h_callIf .c adr | .reservedDD => h_reserved _ rfl
  | .sbi d8 => h_aluImm .sbb d8 | .rst3 => h_rst 3 | .rpo => h_returnIf .po | .popH => h_pop .h
  | .jpo adr => h_jumpIf .po adr | .xthl => h_xthl | .cpo adr => h_callIf .po adr | .pushH => h_push .h
  | .ani d8 => h_aluImm .ana d8 | .rst4 => h_rst 4 | .rpe => h_returnIf .pe | .pchl => h_pchl
  | .jpe adr => h_jumpIf .pe adr | .xchg => h_xchg | .cpe adr => h_callIf .pe adr | .reservedED => h_reserved _ rfl
  | .xri d8 => h_aluImm .xra d8 | .rst5 => h_rst 5 | .rp => h_returnIf .p | .popPsw => h_pop .psw
  | .jp adr => h_jumpIf .p adr | .di => h_di | .cp adr => h_callIf .p adr | .pushPsw => h_push .psw
  | .ori d8 => h_aluImm .ora d8 | .rst6 => h_rst 6 | .rm => h_returnIf .m | .sphl => h_sphl
  | .jm adr => h_jumpIf .m adr | .ei => h_ei | .cm adr => h_callIf .m adr | .reservedFD => h_reserved _ rfl
  | .cpi d8 => h_aluImm .cmp d8 | .rst7 => h_rst 7

end Sys2Proof.Machine
end

