-- ==== Sys2Proof/Laws/PerInstr.lean ====
section
/-! SUPPORT. Statements about every instruction as syntax, made per constructor: the family `EncodeLength`. -/

namespace Sys2Proof.Laws

/-- The bytes of the instruction are as many as the length its first byte gives (R90, R98), and the first byte alone
selects the constructor (R91): whatever operand bytes follow it, it decodes to an instruction with the same first byte. -/
def EncodeLength.Statement (i : Instr) : Prop :=
  ∃ op rest, encode i = op :: rest ∧ (encode i).length = instrLength op ∧
    ∀ b2 b3, (encode (decodeBytes op b2 b3)).head? = some op

theorem EncodeLength.nop : Statement (.nop) := ⟨_, _, rfl, rfl, fun _ _ => rfl⟩
theorem EncodeLength.lxiB (d16 : Word) : Statement (.lxiB d16) := ⟨_, _, rfl, rfl, fun _ _ => rfl⟩
theorem EncodeLength.staxB : Statement (.staxB) := ⟨_, _, rfl, rfl, fun _ _ => rfl⟩
theorem EncodeLength.inxB : Statement (.inxB) := ⟨_, _, rfl, rfl, fun _ _ => rfl⟩
theorem EncodeLength.inrB : Statement (.inrB) := ⟨_, _, rfl, rfl, fun _ _ => rfl⟩
theorem EncodeLength.dcrB : Statement (.dcrB) := ⟨_, _, rfl, rfl, fun _ _ => rfl⟩
theorem EncodeLength.mviB (d8 : Byte) : Statement (.mviB d8) := ⟨_, _, rfl, rfl, fun _ _ => rfl⟩
theorem EncodeLength.rlc : Statement (.rlc) := ⟨_, _, rfl, rfl, fun _ _ => rfl⟩
theorem EncodeLength.reserved08 : Statement (.reserved08) := ⟨_, _, rfl, rfl, fun _ _ => rfl⟩
theorem EncodeLength.dadB : Statement (.dadB) := ⟨_, _, rfl, rfl, fun _ _ => rfl⟩
theorem EncodeLength.ldaxB : Statement (.ldaxB) := ⟨_, _, rfl, rfl, fun _ _ => rfl⟩
theorem EncodeLength.dcxB : Statement (.dcxB) := ⟨_, _, rfl, rfl, fun _ _ => rfl⟩
theorem EncodeLength.inrC : Statement (.inrC) := ⟨_, _, rfl, rfl, fun _ _ => rfl⟩
theorem EncodeLength.dcrC : Statement (.dcrC) := ⟨_, _, rfl, rfl, fun _ _ => rfl⟩
theorem EncodeLength.mviC (d8 : Byte) : Statement (.mviC d8) := ⟨_, _, rfl, rfl, fun _ _ => rfl⟩
theorem EncodeLength.rrc : Statement (.rrc) := ⟨_, _, rfl, rfl, fun _ _ => rfl⟩
theorem EncodeLength.reserved10 : Statement (.reserved10) := ⟨_, _, rfl, rfl, fun _ _ => rfl⟩
theorem EncodeLength.lxiD (d16 : Word) : Statement (.lxiD d16) := ⟨_, _, rfl, rfl, fun _ _ => rfl⟩
theorem EncodeLength.staxD : Statement (.staxD) := ⟨_, _, rfl, rfl, fun _ _ => rfl⟩
theorem EncodeLength.inxD : Statement (.inxD) := ⟨_, _, rfl, rfl, fun _ _ => rfl⟩
theorem EncodeLength.inrD : Statement (.inrD) := ⟨_, _, rfl, rfl, fun _ _ => rfl⟩
theorem EncodeLength.dcrD : Statement (.dcrD) := ⟨_, _, rfl, rfl, fun _ _ => rfl⟩
theorem EncodeLength.mviD (d8 : Byte) : Statement (.mviD d8) := ⟨_, _, rfl, rfl, fun _ _ => rfl⟩
theorem EncodeLength.ral : Statement (.ral) := ⟨_, _, rfl, rfl, fun _ _ => rfl⟩
theorem EncodeLength.reserved18 : Statement (.reserved18) := ⟨_, _, rfl, rfl, fun _ _ => rfl⟩
theorem EncodeLength.dadD : Statement (.dadD) := ⟨_, _, rfl, rfl, fun _ _ => rfl⟩
theorem EncodeLength.ldaxD : Statement (.ldaxD) := ⟨_, _, rfl, rfl, fun _ _ => rfl⟩
theorem EncodeLength.dcxD : Statement (.dcxD) := ⟨_, _, rfl, rfl, fun _ _ => rfl⟩
theorem EncodeLength.inrE : Statement (.inrE) := ⟨_, _, rfl, rfl, fun _ _ => rfl⟩
theorem EncodeLength.dcrE : Statement (.dcrE) := ⟨_, _, rfl, rfl, fun _ _ => rfl⟩
theorem EncodeLength.mviE (d8 : Byte) : Statement (.mviE d8) := ⟨_, _, rfl, rfl, fun _ _ => rfl⟩
theorem EncodeLength.rar : Statement (.rar) := ⟨_, _, rfl, rfl, fun _ _ => rfl⟩
theorem EncodeLength.reserved20 : Statement (.reserved20) := ⟨_, _, rfl, rfl, fun _ _ => rfl⟩
theorem EncodeLength.lxiH (d16 : Word) : Statement (.lxiH d16) := ⟨_, _, rfl, rfl, fun _ _ => rfl⟩
theorem EncodeLength.shld (adr : Word) : Statement (.shld adr) := ⟨_, _, rfl, rfl, fun _ _ => rfl⟩
theorem EncodeLength.inxH : Statement (.inxH) := ⟨_, _, rfl, rfl, fun _ _ => rfl⟩
theorem EncodeLength.inrH : Statement (.inrH) := ⟨_, _, rfl, rfl, fun _ _ => rfl⟩
theorem EncodeLength.dcrH : Statement (.dcrH) := ⟨_, _, rfl, rfl, fun _ _ => rfl⟩
theorem EncodeLength.mviH (d8 : Byte) : Statement (.mviH d8) := ⟨_, _, rfl, rfl, fun _ _ => rfl⟩
theorem EncodeLength.daa : Statement (.daa) := ⟨_, _, rfl, rfl, fun _ _ => rfl⟩
theorem EncodeLength.reserved28 : Statement (.reserved28) := ⟨_, _, rfl, rfl, fun _ _ => rfl⟩
theorem EncodeLength.dadH : Statement (.dadH) := ⟨_, _, rfl, rfl, fun _ _ => rfl⟩
theorem EncodeLength.lhld (adr : Word) : Statement (.lhld adr) := ⟨_, _, rfl, rfl, fun _ _ => rfl⟩
theorem EncodeLength.dcxH : Statement (.dcxH) := ⟨_, _, rfl, rfl, fun _ _ => rfl⟩
theorem EncodeLength.inrL : Statement (.inrL) := ⟨_, _, rfl, rfl, fun _ _ => rfl⟩
theorem EncodeLength.dcrL : Statement (.dcrL) := ⟨_, _, rfl, rfl, fun _ _ => rfl⟩
theorem EncodeLength.mviL (d8 : Byte) : Statement (.mviL d8) := ⟨_, _, rfl, rfl, fun _ _ => rfl⟩
theorem EncodeLength.cma : Statement (.cma) := ⟨_, _, rfl, rfl, fun _ _ => rfl⟩
theorem EncodeLength.reserved30 : Statement (.reserved30) := ⟨_, _, rfl, rfl, fun _ _ => rfl⟩
theorem EncodeLength.lxiSp (d16 : Word) : Statement (.lxiSp d16) := ⟨_, _, rfl, rfl, fun _ _ => rfl⟩
theorem EncodeLength.sta (adr : Word) : Statement (.sta adr) := ⟨_, _, rfl, rfl, fun _ _ => rfl⟩
theorem EncodeLength.inxSp : Statement (.inxSp) := ⟨_, _, rfl, rfl, fun _ _ => rfl⟩
theorem EncodeLength.inrM : Statement (.inrM) := ⟨_, _, rfl, rfl, fun _ _ => rfl⟩
theorem EncodeLength.dcrM : Statement (.dcrM) := ⟨_, _, rfl, rfl, fun _ _ => rfl⟩
theorem EncodeLength.mviM (d8 : Byte) : Statement (.mviM d8) := ⟨_, _, rfl, rfl, fun _ _ => rfl⟩
theorem EncodeLength.stc : Statement (.stc) := ⟨_, _, rfl, rfl, fun _ _ => rfl⟩
theorem EncodeLength.reserved38 : Statement (.reserved38) := ⟨_, _, rfl, rfl, fun _ _ => rfl⟩
theorem EncodeLength.dadSp : Statement (.dadSp) := ⟨_, _, rfl, rfl, fun _ _ => rfl⟩
theorem EncodeLength.lda (adr : Word) : Statement (.lda adr) := ⟨_, _, rfl, rfl, fun _ _ => rfl⟩
theorem EncodeLength.dcxSp : Statement (.dcxSp) := ⟨_, _, rfl, rfl, fun _ _ => rfl⟩
theorem EncodeLength.inrA : Statement (.inrA) := ⟨_, _, rfl, rfl, fun _ _ => rfl⟩
theorem EncodeLength.dcrA : Statement (.dcrA) := ⟨_, _, rfl, rfl, fun _ _ => rfl⟩
theorem EncodeLength.mviA (d8 : Byte) : Statement (.mviA d8) := ⟨_, _, rfl, rfl, fun _ _ => rfl⟩
theorem EncodeLength.cmc : Statement (.cmc) := ⟨_, _, rfl, rfl, fun _ _ => rfl⟩
theorem EncodeLength.movBB : Statement (.movBB) := ⟨_, _, rfl, rfl, fun _ _ => rfl⟩
theorem EncodeLength.movBC : Statement (.movBC) := ⟨_, _, rfl, rfl, fun _ _ => rfl⟩
theorem EncodeLength.movBD : Statement (.movBD) := ⟨_, _, rfl, rfl, fun _ _ => rfl⟩
theorem EncodeLength.movBE : Statement (.movBE) := ⟨_, _, rfl, rfl, fun _ _ => rfl⟩
theorem EncodeLength.movBH : Statement (.movBH) := ⟨_, _, rfl, rfl, fun _ _ => rfl⟩
theorem EncodeLength.movBL : Statement (.movBL) := ⟨_, _, rfl, rfl, fun _ _ => rfl⟩
theorem EncodeLength.movBM : Statement (.movBM) := ⟨_, _, rfl, rfl, fun _ _ => rfl⟩
theorem EncodeLength.movBA : Statement (.movBA) := ⟨_, _, rfl, rfl, fun _ _ => rfl⟩
theorem EncodeLength.movCB : Statement (.movCB) := ⟨_, _, rfl, rfl, fun _ _ => rfl⟩
theorem EncodeLength.movCC : Statement (.movCC) := ⟨_, _, rfl, rfl, fun _ _ => rfl⟩
theorem EncodeLength.movCD : Statement (.movCD) := ⟨_, _, rfl, rfl, fun _ _ => rfl⟩
theorem EncodeLength.movCE : Statement (.movCE) := ⟨_, _, rfl, rfl, fun _ _ => rfl⟩
theorem EncodeLength.movCH : Statement (.movCH) := ⟨_, _, rfl, rfl, fun _ _ => rfl⟩
theorem EncodeLength.movCL : Statement (.movCL) := ⟨_, _, rfl, rfl, fun _ _ => rfl⟩
theorem EncodeLength.movCM : Statement (.movCM) := ⟨_, _, rfl, rfl, fun _ _ => rfl⟩
theorem EncodeLength.movCA : Statement (.movCA) := ⟨_, _, rfl, rfl, fun _ _ => rfl⟩
theorem EncodeLength.movDB : Statement (.movDB) := ⟨_, _, rfl, rfl, fun _ _ => rfl⟩
theorem EncodeLength.movDC : Statement (.movDC) := ⟨_, _, rfl, rfl, fun _ _ => rfl⟩
theorem EncodeLength.movDD : Statement (.movDD) := ⟨_, _, rfl, rfl, fun _ _ => rfl⟩
theorem EncodeLength.movDE : Statement (.movDE) := ⟨_, _, rfl, rfl, fun _ _ => rfl⟩
theorem EncodeLength.movDH : Statement (.movDH) := ⟨_, _, rfl, rfl, fun _ _ => rfl⟩
theorem EncodeLength.movDL : Statement (.movDL) := ⟨_, _, rfl, rfl, fun _ _ => rfl⟩
theorem EncodeLength.movDM : Statement (.movDM) := ⟨_, _, rfl, rfl, fun _ _ => rfl⟩
theorem EncodeLength.movDA : Statement (.movDA) := ⟨_, _, rfl, rfl, fun _ _ => rfl⟩
theorem EncodeLength.movEB : Statement (.movEB) := ⟨_, _, rfl, rfl, fun _ _ => rfl⟩
theorem EncodeLength.movEC : Statement (.movEC) := ⟨_, _, rfl, rfl, fun _ _ => rfl⟩
theorem EncodeLength.movED : Statement (.movED) := ⟨_, _, rfl, rfl, fun _ _ => rfl⟩
theorem EncodeLength.movEE : Statement (.movEE) := ⟨_, _, rfl, rfl, fun _ _ => rfl⟩
theorem EncodeLength.movEH : Statement (.movEH) := ⟨_, _, rfl, rfl, fun _ _ => rfl⟩
theorem EncodeLength.movEL : Statement (.movEL) := ⟨_, _, rfl, rfl, fun _ _ => rfl⟩
theorem EncodeLength.movEM : Statement (.movEM) := ⟨_, _, rfl, rfl, fun _ _ => rfl⟩
theorem EncodeLength.movEA : Statement (.movEA) := ⟨_, _, rfl, rfl, fun _ _ => rfl⟩
theorem EncodeLength.movHB : Statement (.movHB) := ⟨_, _, rfl, rfl, fun _ _ => rfl⟩
theorem EncodeLength.movHC : Statement (.movHC) := ⟨_, _, rfl, rfl, fun _ _ => rfl⟩
theorem EncodeLength.movHD : Statement (.movHD) := ⟨_, _, rfl, rfl, fun _ _ => rfl⟩
theorem EncodeLength.movHE : Statement (.movHE) := ⟨_, _, rfl, rfl, fun _ _ => rfl⟩
theorem EncodeLength.movHH : Statement (.movHH) := ⟨_, _, rfl, rfl, fun _ _ => rfl⟩
theorem EncodeLength.movHL : Statement (.movHL) := ⟨_, _, rfl, rfl, fun _ _ => rfl⟩
theorem EncodeLength.movHM : Statement (.movHM) := ⟨_, _, rfl, rfl, fun _ _ => rfl⟩
theorem EncodeLength.movHA : Statement (.movHA) := ⟨_, _, rfl, rfl, fun _ _ => rfl⟩
theorem EncodeLength.movLB : Statement (.movLB) := ⟨_, _, rfl, rfl, fun _ _ => rfl⟩
theorem EncodeLength.movLC : Statement (.movLC) := ⟨_, _, rfl, rfl, fun _ _ => rfl⟩
theorem EncodeLength.movLD : Statement (.movLD) := ⟨_, _, rfl, rfl, fun _ _ => rfl⟩
theorem EncodeLength.movLE : Statement (.movLE) := ⟨_, _, rfl, rfl, fun _ _ => rfl⟩
theorem EncodeLength.movLH : Statement (.movLH) := ⟨_, _, rfl, rfl, fun _ _ => rfl⟩
theorem EncodeLength.movLL : Statement (.movLL) := ⟨_, _, rfl, rfl, fun _ _ => rfl⟩
theorem EncodeLength.movLM : Statement (.movLM) := ⟨_, _, rfl, rfl, fun _ _ => rfl⟩
theorem EncodeLength.movLA : Statement (.movLA) := ⟨_, _, rfl, rfl, fun _ _ => rfl⟩
theorem EncodeLength.movMB : Statement (.movMB) := ⟨_, _, rfl, rfl, fun _ _ => rfl⟩
theorem EncodeLength.movMC : Statement (.movMC) := ⟨_, _, rfl, rfl, fun _ _ => rfl⟩
theorem EncodeLength.movMD : Statement (.movMD) := ⟨_, _, rfl, rfl, fun _ _ => rfl⟩
theorem EncodeLength.movME : Statement (.movME) := ⟨_, _, rfl, rfl, fun _ _ => rfl⟩
theorem EncodeLength.movMH : Statement (.movMH) := ⟨_, _, rfl, rfl, fun _ _ => rfl⟩
theorem EncodeLength.movML : Statement (.movML) := ⟨_, _, rfl, rfl, fun _ _ => rfl⟩
theorem EncodeLength.hlt : Statement (.hlt) := ⟨_, _, rfl, rfl, fun _ _ => rfl⟩
theorem EncodeLength.movMA : Statement (.movMA) := ⟨_, _, rfl, rfl, fun _ _ => rfl⟩
theorem EncodeLength.movAB : Statement (.movAB) := ⟨_, _, rfl, rfl, fun _ _ => rfl⟩
theorem EncodeLength.movAC : Statement (.movAC) := ⟨_, _, rfl, rfl, fun _ _ => rfl⟩
theorem EncodeLength.movAD : Statement (.movAD) := ⟨_, _, rfl, rfl, fun _ _ => rfl⟩
theorem EncodeLength.movAE : Statement (.movAE) := ⟨_, _, rfl, rfl, fun _ _ => rfl⟩
theorem EncodeLength.movAH : Statement (.movAH) := ⟨_, _, rfl, rfl, fun _ _ => rfl⟩
theorem EncodeLength.movAL : Statement (.movAL) := ⟨_, _, rfl, rfl, fun _ _ => rfl⟩
theorem EncodeLength.movAM : Statement (.movAM) := ⟨_, _, rfl, rfl, fun _ _ => rfl⟩
theorem EncodeLength.movAA : Statement (.movAA) := ⟨_, _, rfl, rfl, fun _ _ => rfl⟩
theorem EncodeLength.addB : Statement (.addB) := ⟨_, _, rfl, rfl, fun _ _ => rfl⟩
theorem EncodeLength.addC : Statement (.addC) := ⟨_, _, rfl, rfl, fun _ _ => rfl⟩
theorem EncodeLength.addD : Statement (.addD) := ⟨_, _, rfl, rfl, fun _ _ => rfl⟩
theorem EncodeLength.addE : Statement (.addE) := ⟨_, _, rfl, rfl, fun _ _ => rfl⟩
theorem EncodeLength.addH : Statement (.addH) := ⟨_, _, rfl, rfl, fun _ _ => rfl⟩
theorem EncodeLength.addL : Statement (.addL) := ⟨_, _, rfl, rfl, fun _ _ => rfl⟩
theorem EncodeLength.addM : Statement (.addM) := ⟨_, _, rfl, rfl, fun _ _ => rfl⟩
theorem EncodeLength.addA : Statement (.addA) := ⟨_, _, rfl, rfl, fun _ _ => rfl⟩
theorem EncodeLength.adcB : Statement (.adcB) := ⟨_, _, rfl, rfl, fun _ _ => rfl⟩
theorem EncodeLength.adcC : Statement (.adcC) := ⟨_, _, rfl, rfl, fun _ _ => rfl⟩
theorem EncodeLength.adcD : Statement (.adcD) := ⟨_, _, rfl, rfl, fun _ _ => rfl⟩
theorem EncodeLength.adcE : Statement (.adcE) := ⟨_, _, rfl, rfl, fun _ _ => rfl⟩
theorem EncodeLength.adcH : Statement (.adcH) := ⟨_, _, rfl, rfl, fun _ _ => rfl⟩
theorem EncodeLength.adcL : Statement (.adcL) := ⟨_, _, rfl, rfl, fun _ _ => rfl⟩
theorem EncodeLength.adcM : Statement (.adcM) := ⟨_, _, rfl, rfl, fun _ _ => rfl⟩
theorem EncodeLength.adcA : Statement (.adcA) := ⟨_, _, rfl, rfl, fun _ _ => rfl⟩
theorem EncodeLength.subB : Statement (.subB) := ⟨_, _, rfl, rfl, fun _ _ => rfl⟩
theorem EncodeLength.subC : Statement (.subC) := ⟨_, _, rfl, rfl, fun _ _ => rfl⟩
theorem EncodeLength.subD : Statement (.subD) := ⟨_, _, rfl, rfl, fun _ _ => rfl⟩
theorem EncodeLength.subE : Statement (.subE) := ⟨_, _, rfl, rfl, fun _ _ => rfl⟩
theorem EncodeLength.subH : Statement (.subH) := ⟨_, _, rfl, rfl, fun _ _ => rfl⟩
theorem EncodeLength.subL : Statement (.subL) := ⟨_, _, rfl, rfl, fun _ _ => rfl⟩
theorem EncodeLength.subM : Statement (.subM) := ⟨_, _, rfl, rfl, fun _ _ => rfl⟩
theorem EncodeLength.subA : Statement (.subA) := ⟨_, _, rfl, rfl, fun _ _ => rfl⟩
theorem EncodeLength.sbbB : Statement (.sbbB) := ⟨_, _, rfl, rfl, fun _ _ => rfl⟩
theorem EncodeLength.sbbC : Statement (.sbbC) := ⟨_, _, rfl, rfl, fun _ _ => rfl⟩
theorem EncodeLength.sbbD : Statement (.sbbD) := ⟨_, _, rfl, rfl, fun _ _ => rfl⟩
theorem EncodeLength.sbbE : Statement (.sbbE) := ⟨_, _, rfl, rfl, fun _ _ => rfl⟩
theorem EncodeLength.sbbH : Statement (.sbbH) := ⟨_, _, rfl, rfl, fun _ _ => rfl⟩
theorem EncodeLength.sbbL : Statement (.sbbL) := ⟨_, _, rfl, rfl, fun _ _ => rfl⟩
theorem EncodeLength.sbbM : Statement (.sbbM) := ⟨_, _, rfl, rfl, fun _ _ => rfl⟩
theorem EncodeLength.sbbA : Statement (.sbbA) := ⟨_, _, rfl, rfl, fun _ _ => rfl⟩
theorem EncodeLength.anaB : Statement (.anaB) := ⟨_, _, rfl, rfl, fun _ _ => rfl⟩
theorem EncodeLength.anaC : Statement (.anaC) := ⟨_, _, rfl, rfl, fun _ _ => rfl⟩
theorem EncodeLength.anaD : Statement (.anaD) := ⟨_, _, rfl, rfl, fun _ _ => rfl⟩
theorem EncodeLength.anaE : Statement (.anaE) := ⟨_, _, rfl, rfl, fun _ _ => rfl⟩
theorem EncodeLength.anaH : Statement (.anaH) := ⟨_, _, rfl, rfl, fun _ _ => rfl⟩
theorem EncodeLength.anaL : Statement (.anaL) := ⟨_, _, rfl, rfl, fun _ _ => rfl⟩
theorem EncodeLength.anaM : Statement (.anaM) := ⟨_, _, rfl, rfl, fun _ _ => rfl⟩
theorem EncodeLength.anaA : Statement (.anaA) := ⟨_, _, rfl, rfl, fun _ _ => rfl⟩
theorem EncodeLength.xraB : Statement (.xraB) := ⟨_, _, rfl, rfl, fun _ _ => rfl⟩
theorem EncodeLength.xraC : Statement (.xraC) := ⟨_, _, rfl, rfl, fun _ _ => rfl⟩
theorem EncodeLength.xraD : Statement (.xraD) := ⟨_, _, rfl, rfl, fun _ _ => rfl⟩
theorem EncodeLength.xraE : Statement (.xraE) := ⟨_, _, rfl, rfl, fun _ _ => rfl⟩
theorem EncodeLength.xraH : Statement (.xraH) := ⟨_, _, rfl, rfl, fun _ _ => rfl⟩
theorem EncodeLength.xraL : Statement (.xraL) := ⟨_, _, rfl, rfl, fun _ _ => rfl⟩
theorem EncodeLength.xraM : Statement (.xraM) := ⟨_, _, rfl, rfl, fun _ _ => rfl⟩
theorem EncodeLength.xraA : Statement (.xraA) := ⟨_, _, rfl, rfl, fun _ _ => rfl⟩
theorem EncodeLength.oraB : Statement (.oraB) := ⟨_, _, rfl, rfl, fun _ _ => rfl⟩
theorem EncodeLength.oraC : Statement (.oraC) := ⟨_, _, rfl, rfl, fun _ _ => rfl⟩
theorem EncodeLength.oraD : Statement (.oraD) := ⟨_, _, rfl, rfl, fun _ _ => rfl⟩
theorem EncodeLength.oraE : Statement (.oraE) := ⟨_, _, rfl, rfl, fun _ _ => rfl⟩
theorem EncodeLength.oraH : Statement (.oraH) := ⟨_, _, rfl, rfl, fun _ _ => rfl⟩
theorem EncodeLength.oraL : Statement (.oraL) := ⟨_, _, rfl, rfl, fun _ _ => rfl⟩
theorem EncodeLength.oraM : Statement (.oraM) := ⟨_, _, rfl, rfl, fun _ _ => rfl⟩
theorem EncodeLength.oraA : Statement (.oraA) := ⟨_, _, rfl, rfl, fun _ _ => rfl⟩
theorem EncodeLength.cmpB : Statement (.cmpB) := ⟨_, _, rfl, rfl, fun _ _ => rfl⟩
theorem EncodeLength.cmpC : Statement (.cmpC) := ⟨_, _, rfl, rfl, fun _ _ => rfl⟩
theorem EncodeLength.cmpD : Statement (.cmpD) := ⟨_, _, rfl, rfl, fun _ _ => rfl⟩
theorem EncodeLength.cmpE : Statement (.cmpE) := ⟨_, _, rfl, rfl, fun _ _ => rfl⟩
theorem EncodeLength.cmpH : Statement (.cmpH) := ⟨_, _, rfl, rfl, fun _ _ => rfl⟩
theorem EncodeLength.cmpL : Statement (.cmpL) := ⟨_, _, rfl, rfl, fun _ _ => rfl⟩
theorem EncodeLength.cmpM : Statement (.cmpM) := ⟨_, _, rfl, rfl, fun _ _ => rfl⟩
theorem EncodeLength.cmpA : Statement (.cmpA) := ⟨_, _, rfl, rfl, fun _ _ => rfl⟩
theorem EncodeLength.rnz : Statement (.rnz) := ⟨_, _, rfl, rfl, fun _ _ => rfl⟩
theorem EncodeLength.popB : Statement (.popB) := ⟨_, _, rfl, rfl, fun _ _ => rfl⟩
theorem EncodeLength.jnz (adr : Word) : Statement (.jnz adr) := ⟨_, _, rfl, rfl, fun _ _ => rfl⟩
theorem EncodeLength.jmp (adr : Word) : Statement (.jmp adr) := ⟨_, _, rfl, rfl, fun _ _ => rfl⟩
theorem EncodeLength.cnz (adr : Word) : Statement (.cnz adr) := ⟨_, _, rfl, rfl, fun _ _ => rfl⟩
theorem EncodeLength.pushB : Statement (.pushB) := ⟨_, _, rfl, rfl, fun _ _ => rfl⟩
theorem EncodeLength.adi (d8 : Byte) : Statement (.adi d8) := ⟨_, _, rfl, rfl, fun _ _ => rfl⟩
theorem EncodeLength.rst0 : Statement (.rst0) := ⟨_, _, rfl, rfl, fun _ _ => rfl⟩
theorem EncodeLength.rz : Statement (.rz) := ⟨_, _, rfl, rfl, fun _ _ => rfl⟩
theorem EncodeLength.ret : Statement (.ret) := ⟨_, _, rfl, rfl, fun _ _ => rfl⟩
theorem EncodeLength.jz (adr : Word) : Statement (.jz adr) := ⟨_, _, rfl, rfl, fun _ _ => rfl⟩
theorem EncodeLength.reservedCB : Statement (.reservedCB) := ⟨_, _, rfl, rfl, fun _ _ => rfl⟩
theorem EncodeLength.cz (adr : Word) : Statement (.cz adr) := ⟨_, _, rfl, rfl, fun _ _ => rfl⟩
theorem EncodeLength.call (adr : Word) : Statement (.call adr) := ⟨_, _, rfl, rfl, fun _ _ => rfl⟩
theorem EncodeLength.aci (d8 : Byte) : Statement (.aci d8) := ⟨_, _, rfl, rfl, fun _ _ => rfl⟩
theorem EncodeLength.rst1 : Statement (.rst1) := ⟨_, _, rfl, rfl, fun _ _ => rfl⟩
theorem EncodeLength.rnc : Statement (.rnc) := ⟨_, _, rfl, rfl, fun _ _ => rfl⟩
theorem EncodeLength.popD : Statement (.popD) := ⟨_, _, rfl, rfl, fun _ _ => rfl⟩
theorem EncodeLength.jnc (adr : Word) : Statement (.jnc adr) := ⟨_, _, rfl, rfl, fun _ _ => rfl⟩
theorem EncodeLength.outPort (port : Byte) : Statement (.outPort port) := ⟨_, _, rfl, rfl, fun _ _ => rfl⟩
theorem EncodeLength.cnc (adr : Word) : Statement (.cnc adr) := ⟨_, _, rfl, rfl, fun _ _ => rfl⟩
theorem EncodeLength.pushD : Statement (.pushD) := ⟨_, _, rfl, rfl, fun _ _ => rfl⟩
theorem EncodeLength.sui (d8 : Byte) : Statement (.sui d8) := ⟨_, _, rfl, rfl, fun _ _ => rfl⟩
theorem EncodeLength.rst2 : Statement (.rst2) := ⟨_, _, rfl, rfl, fun _ _ => rfl⟩
theorem EncodeLength.rc : Statement (.rc) := ⟨_, _, rfl, rfl, fun _ _ => rfl⟩
theorem EncodeLength.reservedD9 : Statement (.reservedD9) := ⟨_, _, rfl, rfl, fun _ _ => rfl⟩
theorem EncodeLength.jc (adr : Word) : Statement (.jc adr) := ⟨_, _, rfl, rfl, fun _ _ => rfl⟩
theorem EncodeLength.inPort (port : Byte) : Statement (.inPort port) := ⟨_, _, rfl, rfl, fun _ _ => rfl⟩
theorem EncodeLength.cc (adr : Word) : Statement (.cc adr) := ⟨_, _, rfl, rfl, fun _ _ => rfl⟩
theorem EncodeLength.reservedDD : Statement (.reservedDD) := ⟨_, _, rfl, rfl, fun _ _ => rfl⟩
theorem EncodeLength.sbi (d8 : Byte) : Statement (.sbi d8) := ⟨_, _, rfl, rfl, fun _ _ => rfl⟩
theorem EncodeLength.rst3 : Statement (.rst3) := ⟨_, _, rfl, rfl, fun _ _ => rfl⟩
theorem EncodeLength.rpo : Statement (.rpo) := ⟨_, _, rfl, rfl, fun _ _ => rfl⟩
theorem EncodeLength.popH : Statement (.popH) := ⟨_, _, rfl, rfl, fun _ _ => rfl⟩
theorem EncodeLength.jpo (adr : Word) : Statement (.jpo adr) := ⟨_, _, rfl, rfl, fun _ _ => rfl⟩
theorem EncodeLength.xthl : Statement (.xthl) := ⟨_, _, rfl, rfl, fun _ _ => rfl⟩
theorem EncodeLength.cpo (adr : Word) : Statement (.cpo adr) := ⟨_, _, rfl, rfl, fun _ _ => rfl⟩
theorem EncodeLength.pushH : Statement (.pushH) := ⟨_, _, rfl, rfl, fun _ _ => rfl⟩
theorem EncodeLength.ani (d8 : Byte) : Statement (.ani d8) := ⟨_, _, rfl, rfl, fun _ _ => rfl⟩
theorem EncodeLength.rst4 : Statement (.rst4) := ⟨_, _, rfl, rfl, fun _ _ => rfl⟩
theorem EncodeLength.rpe : Statement (.rpe) := ⟨_, _, rfl, rfl, fun _ _ => rfl⟩
theorem EncodeLength.pchl : Statement (.pchl) := ⟨_, _, rfl, rfl, fun _ _ => rfl⟩
theorem EncodeLength.jpe (adr : Word) : Statement (.jpe adr) := ⟨_, _, rfl, rfl, fun _ _ => rfl⟩
theorem EncodeLength.xchg : Statement (.xchg) := ⟨_, _, rfl, rfl, fun _ _ => rfl⟩
theorem EncodeLength.cpe (adr : Word) : Statement (.cpe adr) := ⟨_, _, rfl, rfl, fun _ _ => rfl⟩
theorem EncodeLength.reservedED : Statement (.reservedED) := ⟨_, _, rfl, rfl, fun _ _ => rfl⟩
theorem EncodeLength.xri (d8 : Byte) : Statement (.xri d8) := ⟨_, _, rfl, rfl, fun _ _ => rfl⟩
theorem EncodeLength.rst5 : Statement (.rst5) := ⟨_, _, rfl, rfl, fun _ _ => rfl⟩
theorem EncodeLength.rp : Statement (.rp) := ⟨_, _, rfl, rfl, fun _ _ => rfl⟩
theorem EncodeLength.popPsw : Statement (.popPsw) := ⟨_, _, rfl, rfl, fun _ _ => rfl⟩
theorem EncodeLength.jp (adr : Word) : Statement (.jp adr) := ⟨_, _, rfl, rfl, fun _ _ => rfl⟩
theorem EncodeLength.di : Statement (.di) := ⟨_, _, rfl, rfl, fun _ _ => rfl⟩
theorem EncodeLength.cp (adr : Word) : Statement (.cp adr) := ⟨_, _, rfl, rfl, fun _ _ => rfl⟩
theorem EncodeLength.pushPsw : Statement (.pushPsw) := ⟨_, _, rfl, rfl, fun _ _ => rfl⟩
theorem EncodeLength.ori (d8 : Byte) : Statement (.ori d8) := ⟨_, _, rfl, rfl, fun _ _ => rfl⟩
theorem EncodeLength.rst6 : Statement (.rst6) := ⟨_, _, rfl, rfl, fun _ _ => rfl⟩
theorem EncodeLength.rm : Statement (.rm) := ⟨_, _, rfl, rfl, fun _ _ => rfl⟩
theorem EncodeLength.sphl : Statement (.sphl) := ⟨_, _, rfl, rfl, fun _ _ => rfl⟩
theorem EncodeLength.jm (adr : Word) : Statement (.jm adr) := ⟨_, _, rfl, rfl, fun _ _ => rfl⟩
theorem EncodeLength.ei : Statement (.ei) := ⟨_, _, rfl, rfl, fun _ _ => rfl⟩
theorem EncodeLength.cm (adr : Word) : Statement (.cm adr) := ⟨_, _, rfl, rfl, fun _ _ => rfl⟩
theorem EncodeLength.reservedFD : Statement (.reservedFD) := ⟨_, _, rfl, rfl, fun _ _ => rfl⟩
theorem EncodeLength.cpi (d8 : Byte) : Statement (.cpi d8) := ⟨_, _, rfl, rfl, fun _ _ => rfl⟩
theorem EncodeLength.rst7 : Statement (.rst7) := ⟨_, _, rfl, rfl, fun _ _ => rfl⟩

end Sys2Proof.Laws
end

