-- ==== Sys2Proof/Tests/Slice0.lean ====
section
/-! SUPPORT. The model's own tests.  Expected values come from spec/95_test_vectors.md (the vector's name stands in the
docstring) or from the encoding rules of spec/30_encoding.md.  The witnesses at the end show, for each statement with
hypotheses, a state and operands that meet them, clause by clause. -/

open Sys2Proof Sys2Proof.Machine Sys2Proof.Vocabulary

namespace Sys2Proof.Tests

/-- The instruction a table word decodes to: how many bits, and the bits. -/
def readWord (p : Nat × Nat) : Option Instr := decodeTableWord p.1 p.2

/-- One part of the next state of an instruction, or nothing where it stops. -/
def after {α : Type} (i : Instr) (s : State) (look : State → α) : Option α :=
  match exec i s with
  | .next t => some (look t)
  | _ => none

/-- One part of the state after one step, or nothing where it stops. -/
def stepped {α : Type} (s : State) (look : State → α) : Option α :=
  match step s with
  | .next t => some (look t)
  | _ => none

/-- The fault an instruction ends in, or nothing. -/
def faultOf (i : Instr) (s : State) : Option Fault :=
  match exec i s with
  | .fault e => some e
  | _ => none

/-- The flags from z, s, p, ac, c written as 0 and 1, in the order of spec/95_test_vectors.md. -/
def fl (z s p ac c : Nat) : Flags := ⟨z == 1, s == 1, p == 1, ac == 1, c == 1⟩

/-- The state after reset with A, the flags and HL = 2000h set. -/
def withA (a : Byte) (f : Flags) : State := { State.reset with a := a, f := f, h := 0x20 }

/-- A small state, RAM everywhere: BC = 1234h, DE = 2001h, HL = SP = 2000h. -/
def small : State :=
  { State.reset with
    a := 0x5A, b := 0x12, c := 0x34, d := 0x20, e := 0x01, h := 0x20, l := 0x00, sp := 0x2000, pc := 0x0103
    mem := [(0x1234, 0x66), (0x2000, 0x78), (0x2001, 0x56)] }

/-- ROM at 0000h to 0FFFh, RAM at 1000h to EFFFh, nothing above; the bytes on both sides of each border are listed. -/
def bordered : State :=
  { State.reset with
    params := { defaultParams with memmap := [⟨0x0000, 0x0FFF, .rom⟩, ⟨0x1000, 0xEFFF, .ram⟩] }
    mem := [(0x0FFE, 0x11), (0x0FFF, 0x22), (0x1000, 0x33), (0x1001, 0x44), (0xEFFF, 0x55)] }

/-- `bordered` with HL = `v`. -/
def atHl (v : Word) : State := bordered.setHl v

/-- `bordered` with SP = `v`. -/
def atSp (v : Word) : State := bordered.setSp v

/-! ## Well-formedness -/

/-- R104: the check refuses each of the twelve terms at a reserved first byte. -/
theorem test_reserved_ill_formed :
    [Instr.reserved08, .reserved10, .reserved18, .reserved20, .reserved28, .reserved30, .reserved38, .reservedCB,
      .reservedD9, .reservedDD, .reservedED, .reservedFD].map Instr.wellFormed = List.replicate 12 false := rfl

/-- R106: an assigned first byte with any operand is well formed. -/
theorem test_assigned_well_formed :
    [Instr.nop, .mviM 0xFF, .jm 0xFFFF, .outPort 0x00, .rst7].map Instr.wellFormed = List.replicate 5 true := rfl

/-! ## Decoding: Таблица 12, one theorem for each high hexadecimal digit of the first byte

The operand bytes are B2 = A5h in the two-byte instructions, B2 = 50h and B3 = 02h in the three-byte ones. -/

theorem test_decode_row_0 :
    [
      (8, 0x00), (24, 0x025001), (8, 0x02), (8, 0x03), (8, 0x04), (8, 0x05), (16, 0xA506), (8, 0x07), (8, 0x08),
      (8, 0x09), (8, 0x0A), (8, 0x0B), (8, 0x0C), (8, 0x0D), (16, 0xA50E), (8, 0x0F)].map readWord =
    [
      .nop, .lxiB 0x0250, .staxB, .inxB, .inrB, .dcrB, .mviB 0xA5, .rlc, .reserved08, .dadB, .ldaxB, .dcxB, .inrC,
      .dcrC, .mviC 0xA5, .rrc].map
      some := rfl
theorem test_decode_row_1 :
    [
      (8, 0x10), (24, 0x025011), (8, 0x12), (8, 0x13), (8, 0x14), (8, 0x15), (16, 0xA516), (8, 0x17), (8, 0x18),
      (8, 0x19), (8, 0x1A), (8, 0x1B), (8, 0x1C), (8, 0x1D), (16, 0xA51E), (8, 0x1F)].map readWord =
    [
      .reserved10, .lxiD 0x0250, .staxD, .inxD, .inrD, .dcrD, .mviD 0xA5, .ral, .reserved18, .dadD, .ldaxD, .dcxD,
      .inrE, .dcrE, .mviE 0xA5, .rar].map
      some := rfl
theorem test_decode_row_2 :
    [
      (8, 0x20), (24, 0x025021), (24, 0x025022), (8, 0x23), (8, 0x24), (8, 0x25), (16, 0xA526), (8, 0x27), (8, 0x28),
      (8, 0x29), (24, 0x02502A), (8, 0x2B), (8, 0x2C), (8, 0x2D), (16, 0xA52E), (8, 0x2F)].map readWord =
    [
      .reserved20, .lxiH 0x0250, .shld 0x0250, .inxH, .inrH, .dcrH, .mviH 0xA5, .daa, .reserved28, .dadH,
      .lhld 0x0250, .dcxH, .inrL, .dcrL, .mviL 0xA5, .cma].map
      some := rfl
theorem test_decode_row_3 :
    [
      (8, 0x30), (24, 0x025031), (24, 0x025032), (8, 0x33), (8, 0x34), (8, 0x35), (16, 0xA536), (8, 0x37), (8, 0x38),
      (8, 0x39), (24, 0x02503A), (8, 0x3B), (8, 0x3C), (8, 0x3D), (16, 0xA53E), (8, 0x3F)].map readWord =
    [
      .reserved30, .lxiSp 0x0250, .sta 0x0250, .inxSp, .inrM, .dcrM, .mviM 0xA5, .stc, .reserved38, .dadSp,
      .lda 0x0250, .dcxSp, .inrA, .dcrA, .mviA 0xA5, .cmc].map
      some := rfl
theorem test_decode_row_4 :
    [
      (8, 0x40), (8, 0x41), (8, 0x42), (8, 0x43), (8, 0x44), (8, 0x45), (8, 0x46), (8, 0x47), (8, 0x48), (8, 0x49),
      (8, 0x4A), (8, 0x4B), (8, 0x4C), (8, 0x4D), (8, 0x4E), (8, 0x4F)].map readWord =
    [
      .movBB, .movBC, .movBD, .movBE, .movBH, .movBL, .movBM, .movBA, .movCB, .movCC, .movCD, .movCE, .movCH, .movCL,
      .movCM, .movCA].map
      some := rfl
theorem test_decode_row_5 :
    [
      (8, 0x50), (8, 0x51), (8, 0x52), (8, 0x53), (8, 0x54), (8, 0x55), (8, 0x56), (8, 0x57), (8, 0x58), (8, 0x59),
      (8, 0x5A), (8, 0x5B), (8, 0x5C), (8, 0x5D), (8, 0x5E), (8, 0x5F)].map readWord =
    [
      .movDB, .movDC, .movDD, .movDE, .movDH, .movDL, .movDM, .movDA, .movEB, .movEC, .movED, .movEE, .movEH, .movEL,
      .movEM, .movEA].map
      some := rfl
theorem test_decode_row_6 :
    [
      (8, 0x60), (8, 0x61), (8, 0x62), (8, 0x63), (8, 0x64), (8, 0x65), (8, 0x66), (8, 0x67), (8, 0x68), (8, 0x69),
      (8, 0x6A), (8, 0x6B), (8, 0x6C), (8, 0x6D), (8, 0x6E), (8, 0x6F)].map readWord =
    [
      .movHB, .movHC, .movHD, .movHE, .movHH, .movHL, .movHM, .movHA, .movLB, .movLC, .movLD, .movLE, .movLH, .movLL,
      .movLM, .movLA].map
      some := rfl
theorem test_decode_row_7 :
    [
      (8, 0x70), (8, 0x71), (8, 0x72), (8, 0x73), (8, 0x74), (8, 0x75), (8, 0x76), (8, 0x77), (8, 0x78), (8, 0x79),
      (8, 0x7A), (8, 0x7B), (8, 0x7C), (8, 0x7D), (8, 0x7E), (8, 0x7F)].map readWord =
    [
      .movMB, .movMC, .movMD, .movME, .movMH, .movML, .hlt, .movMA, .movAB, .movAC, .movAD, .movAE, .movAH, .movAL,
      .movAM, .movAA].map
      some := rfl
theorem test_decode_row_8 :
    [
      (8, 0x80), (8, 0x81), (8, 0x82), (8, 0x83), (8, 0x84), (8, 0x85), (8, 0x86), (8, 0x87), (8, 0x88), (8, 0x89),
      (8, 0x8A), (8, 0x8B), (8, 0x8C), (8, 0x8D), (8, 0x8E), (8, 0x8F)].map readWord =
    [
      .addB, .addC, .addD, .addE, .addH, .addL, .addM, .addA, .adcB, .adcC, .adcD, .adcE, .adcH, .adcL, .adcM, .adcA].map
      some := rfl
theorem test_decode_row_9 :
    [
      (8, 0x90), (8, 0x91), (8, 0x92), (8, 0x93), (8, 0x94), (8, 0x95), (8, 0x96), (8, 0x97), (8, 0x98), (8, 0x99),
      (8, 0x9A), (8, 0x9B), (8, 0x9C), (8, 0x9D), (8, 0x9E), (8, 0x9F)].map readWord =
    [
      .subB, .subC, .subD, .subE, .subH, .subL, .subM, .subA, .sbbB, .sbbC, .sbbD, .sbbE, .sbbH, .sbbL, .sbbM, .sbbA].map
      some := rfl
theorem test_decode_row_A :
    [
      (8, 0xA0), (8, 0xA1), (8, 0xA2), (8, 0xA3), (8, 0xA4), (8, 0xA5), (8, 0xA6), (8, 0xA7), (8, 0xA8), (8, 0xA9),
      (8, 0xAA), (8, 0xAB), (8, 0xAC), (8, 0xAD), (8, 0xAE), (8, 0xAF)].map readWord =
    [
      .anaB, .anaC, .anaD, .anaE, .anaH, .anaL, .anaM, .anaA, .xraB, .xraC, .xraD, .xraE, .xraH, .xraL, .xraM, .xraA].map
      some := rfl
theorem test_decode_row_B :
    [
      (8, 0xB0), (8, 0xB1), (8, 0xB2), (8, 0xB3), (8, 0xB4), (8, 0xB5), (8, 0xB6), (8, 0xB7), (8, 0xB8), (8, 0xB9),
      (8, 0xBA), (8, 0xBB), (8, 0xBC), (8, 0xBD), (8, 0xBE), (8, 0xBF)].map readWord =
    [
      .oraB, .oraC, .oraD, .oraE, .oraH, .oraL, .oraM, .oraA, .cmpB, .cmpC, .cmpD, .cmpE, .cmpH, .cmpL, .cmpM, .cmpA].map
      some := rfl
theorem test_decode_row_C :
    [
      (8, 0xC0), (8, 0xC1), (24, 0x0250C2), (24, 0x0250C3), (24, 0x0250C4), (8, 0xC5), (16, 0xA5C6), (8, 0xC7),
      (8, 0xC8), (8, 0xC9), (24, 0x0250CA), (8, 0xCB), (24, 0x0250CC), (24, 0x0250CD), (16, 0xA5CE), (8, 0xCF)].map readWord =
    [
      .rnz, .popB, .jnz 0x0250, .jmp 0x0250, .cnz 0x0250, .pushB, .adi 0xA5, .rst0, .rz, .ret, .jz 0x0250,
      .reservedCB, .cz 0x0250, .call 0x0250, .aci 0xA5, .rst1].map
      some := rfl
theorem test_decode_row_D :
    [
      (8, 0xD0), (8, 0xD1), (24, 0x0250D2), (16, 0xA5D3), (24, 0x0250D4), (8, 0xD5), (16, 0xA5D6), (8, 0xD7),
      (8, 0xD8), (8, 0xD9), (24, 0x0250DA), (16, 0xA5DB), (24, 0x0250DC), (8, 0xDD), (16, 0xA5DE), (8, 0xDF)].map readWord =
    [
      .rnc, .popD, .jnc 0x0250, .outPort 0xA5, .cnc 0x0250, .pushD, .sui 0xA5, .rst2, .rc, .reservedD9, .jc 0x0250,
      .inPort 0xA5, .cc 0x0250, .reservedDD, .sbi 0xA5, .rst3].map
      some := rfl
theorem test_decode_row_E :
    [
      (8, 0xE0), (8, 0xE1), (24, 0x0250E2), (8, 0xE3), (24, 0x0250E4), (8, 0xE5), (16, 0xA5E6), (8, 0xE7), (8, 0xE8),
      (8, 0xE9), (24, 0x0250EA), (8, 0xEB), (24, 0x0250EC), (8, 0xED), (16, 0xA5EE), (8, 0xEF)].map readWord =
    [
      .rpo, .popH, .jpo 0x0250, .xthl, .cpo 0x0250, .pushH, .ani 0xA5, .rst4, .rpe, .pchl, .jpe 0x0250, .xchg,
      .cpe 0x0250, .reservedED, .xri 0xA5, .rst5].map
      some := rfl
theorem test_decode_row_F :
    [
      (8, 0xF0), (8, 0xF1), (24, 0x0250F2), (8, 0xF3), (24, 0x0250F4), (8, 0xF5), (16, 0xA5F6), (8, 0xF7), (8, 0xF8),
      (8, 0xF9), (24, 0x0250FA), (8, 0xFB), (24, 0x0250FC), (8, 0xFD), (16, 0xA5FE), (8, 0xFF)].map readWord =
    [
      .rp, .popPsw, .jp 0x0250, .di, .cp 0x0250, .pushPsw, .ori 0xA5, .rst6, .rm, .sphl, .jm 0x0250, .ei, .cm 0x0250,
      .reservedFD, .cpi 0xA5, .rst7].map
      some := rfl

/-! Words written bit by bit from the patterns of R93 to R98, one for each family. -/

/-- `01 ddd sss` with ddd = E, sss = H (R93). -/
theorem test_decode_mov : decodeTableWord 8 0b01_011_100 = some (Instr.movRR .e .h) := rfl
/-- `01 ddd 110` with ddd = A, and `01 110 sss` with sss = C (R93). -/
theorem test_decode_mov_m :
    decodeTableWord 8 0b01_111_110 = some (Instr.movRM .a) ∧ decodeTableWord 8 0b01_110_001 = some (Instr.movMR .c) :=
  ⟨rfl, rfl⟩
/-- `00 ddd 110` with ddd = D, then B2 (R93, R96). -/
theorem test_decode_mvi : decodeTableWord 16 0b11000011_00_010_110 = some (Instr.mvi (.reg .d) 0xC3) := rfl
/-- Example S1: `00 10 0001`, then 1Ah and 0Bh. -/
theorem test_decode_lxi : decodeTableWord 24 0b00001011_00011010_00_10_0001 = some (Instr.lxi .h 0x0B1A) := rfl
/-- `10 ooo sss` with SBB and M (R93, R99). -/
theorem test_decode_alu : decodeTableWord 8 0b10_011_110 = some (Instr.alu .sbb .m) := rfl
/-- `11 ooo 110` with XRI, then B2 (R96, R99). -/
theorem test_decode_alu_imm : decodeTableWord 16 0b01010101_11_101_110 = some (Instr.aluImm .xra 0x55) := rfl
/-- `00 ddd 100` with M, `00 ddd 101` with L (R93). -/
theorem test_decode_count :
    decodeTableWord 8 0b00_110_100 = some (Instr.inr .m) ∧ decodeTableWord 8 0b00_101_101 = some (Instr.dcr (.reg .l)) :=
  ⟨rfl, rfl⟩
/-- `00 rp 0011`, `00 rp 1011`, `00 rp 1001` with SP, D, B (R94). -/
theorem test_decode_pairs :
    decodeTableWord 8 0b00_11_0011 = some (Instr.inx .sp) ∧ decodeTableWord 8 0b00_01_1011 = some (Instr.dcx .d) ∧
    decodeTableWord 8 0b00_00_1001 = some (Instr.dad .b) := ⟨rfl, rfl, rfl⟩
/-- `11 rp 0101` and `11 rp 0001` with PSW and H (R94). -/
theorem test_decode_stack :
    decodeTableWord 8 0b11_11_0101 = some (Instr.push .psw) ∧ decodeTableWord 8 0b11_10_0001 = some (Instr.pop .h) :=
  ⟨rfl, rfl⟩
/-- `11 ccc 010`, `11 ccc 100`, `11 ccc 000` with PO, C, M (R95). -/
theorem test_decode_conditions :
    decodeTableWord 24 0b11111111_00000000_11_100_010 = some (Instr.jumpIf .po 0xFF00) ∧
    decodeTableWord 24 0b00000000_11111111_11_011_100 = some (Instr.callIf .c 0x00FF) ∧
    decodeTableWord 8 0b11_111_000 = some (Instr.returnIf .m) := ⟨rfl, rfl, rfl⟩
/-- `11 nnn 111` with N = 6 (R97). -/
theorem test_decode_rst : decodeTableWord 8 0b11_110_111 = some (Instr.rst 6) := rfl
/-- R98: an instruction cut short does not decode. -/
theorem test_decode_cut :
    decode [] = .error .noBytes ∧ decode [0x3E] = .error (.operandMissing 0x3E) ∧
    decode [0xC3, 0x00] = .error (.operandMissing 0xC3) := ⟨rfl, rfl, rfl⟩
/-- R60, R96: the low byte of a 16-bit operand is B2. -/
theorem test_encode_order : encode (.sta 0x1234) = [0x32, 0x34, 0x12] := rfl

/-! ## Transfer and load -/

/-- T2. -/
theorem test_mov_m_h : after .movMH { small with h := 0x20, l := 0x20 } (fun t => t.mem.read 0x2020) = some (some 0x20) := by
  decide
/-- T3. -/
theorem test_mov_h_m :
    after .movHM { small with mem := [(0x2000, 0x30)] } (fun t => (t.h, t.l)) = some (0x30, 0x00) := by decide
/-- T4. -/
theorem test_mov_e_m_unwritten : faultOf .movEM { small with mem := [] } = some (.unwrittenRead 0x2000) := by decide
/-- T6. -/
theorem test_mvi_m_rom : faultOf (.mviM 0x55) (atHl 0x0800) = some (.writeToNonRam 0x0800) := by decide
/-- T7. -/
theorem test_lda_top : after (.lda 0xFFFF) { small with mem := [(0xFFFF, 0x77)] } State.a = some 0x77 := by decide
/-- T8. -/
theorem test_sta_bottom :
    after (.sta 0x0000) { small with a := 0xC3 } (fun t => t.mem.read 0) = some (some 0xC3) := by decide
/-- T10: SP wraps between the two stores. -/
theorem test_push_wraps :
    after .pushB { small with sp := 0x0001 } (fun t => (t.sp, t.mem.read 0x0000, t.mem.read 0xFFFF)) =
      some (0xFFFF, some 0x12, some 0x34) := by decide
/-- T12: SP wraps between the two loads. -/
theorem test_pop_wraps :
    after .popH { small with sp := 0xFFFF, mem := [(0x0000, 0xAB), (0xFFFF, 0xCD)] } (fun t => (t.h, t.l, t.sp)) =
      some (0xAB, 0xCD, 0x0001) := by decide
/-- T14, T15. -/
theorem test_push_psw :
    [withA 0 (fl 0 0 0 0 0), withA 0xFF (fl 1 1 1 1 1)].map (fun s => after .pushPsw s (fun t => t.mem.read 0xFFFE)) =
      [some (some 0x02), some (some 0xD7)] := by decide
/-- T18, T19. -/
theorem test_pop_psw :
    [0x2A, 0x45].map (fun v => after .popPsw { small with mem := [(0x2000, v), (0x2001, 0x7E)] } (fun t => (t.a, t.f))) =
      [some (0x7E, fl 0 0 0 0 0), some (0x7E, fl 1 0 1 0 1)] := by decide
/-- T23. -/
theorem test_lhld_wraps :
    after (.lhld 0xFFFF) { small with mem := [(0x0000, 0x12), (0xFFFF, 0x34)] } (fun t => (t.h, t.l)) =
      some (0x12, 0x34) := by decide
/-- T24. -/
theorem test_shld_wraps :
    after (.shld 0xFFFF) { small with h := 0xAB, l := 0xCD } (fun t => (t.mem.read 0xFFFF, t.mem.read 0x0000)) =
      some (some 0xCD, some 0xAB) := by decide
/-- T25. -/
theorem test_xthl :
    after .xthl { small with sp := 0xFFFF, h := 0x11, l := 0x22, mem := [(0x0000, 0x44), (0xFFFF, 0x33)] }
      (fun t => (t.h, t.l, t.mem.read 0xFFFF, t.mem.read 0x0000)) = some (0x44, 0x33, some 0x22, some 0x11) := by decide
/-- T26, T27. -/
theorem test_stax_ldax :
    after .staxD small (fun t => t.mem.read 0x2001) = some (some 0x5A) ∧ after .ldaxB small State.a = some 0x66 := by
  decide

/-! ## Data processing -/

/-- By hand from R37, 6Ch + 2Eh; and A3, 7Fh + 01h. -/
theorem test_add :
    after (.adi 0x2E) (withA 0x6C (fl 0 0 0 0 0)) (fun t => (t.a, t.f)) = some (0x9A, fl 0 1 1 1 0) ∧
    after (.adi 0x01) (withA 0x7F (fl 0 0 0 0 0)) (fun t => (t.a, t.f)) = some (0x80, fl 0 1 0 1 0) := by decide
/-- R151: ACI adds the carry. -/
theorem test_aci : after (.aci 0x00) (withA 0xFF (fl 0 0 0 0 1)) (fun t => (t.a, t.f)) = some (0x00, fl 1 0 1 1 1) := by
  decide
/-- A10: 00h - FFh - 1. -/
theorem test_sbb : after (.sbi 0xFF) (withA 0x00 (fl 0 0 0 0 1)) (fun t => (t.a, t.f.z, t.f.c)) = some (0x00, true, true) := by
  decide
/-- S6: SUB A clears A. -/
theorem test_sub_a : after .subA (withA 0x3E (fl 0 1 0 0 1)) (fun t => (t.a, t.f)) = some (0x00, fl 1 0 1 1 0) := by decide
/-- A13, A15: comparison is unsigned. -/
theorem test_cmp_unsigned :
    after (.cpi 0x7F) (withA 0x80 (fl 0 0 0 0 0)) (fun t => (t.a, t.f.c, t.f.z)) = some (0x80, false, false) ∧
    after (.cpi 0x80) (withA 0x7F (fl 0 0 0 0 0)) (fun t => (t.a, t.f.c, t.f.z)) = some (0x7F, true, false) := by decide
/-- A19: INR keeps c. -/
theorem test_inr_keeps_carry : after .inrA (withA 0xFF (fl 0 0 0 0 1)) (fun t => (t.a, t.f)) = some (0x00, fl 1 0 1 1 1) := by
  decide
/-- A22. -/
theorem test_dcr_m :
    after .dcrM { withA 0 (fl 0 0 0 0 1) with mem := [(0x2000, 0x10)] } (fun t => (t.mem.read 0x2000, t.f)) =
      some (some 0x0F, fl 0 0 1 0 1) := by decide
/-- A25, A30: the alternative `i8080` of `AC_LOGIC`. -/
theorem test_logic_i8080 :
    after .anaA { withA 0 (fl 0 0 0 0 1) with params := { defaultParams with acLogic := .i8080 } } (fun t => (t.a, t.f)) =
      some (0x00, fl 1 0 1 0 0) ∧
    after .xraM { withA 0xFF (fl 0 0 0 0 1) with
      params := { defaultParams with acLogic := .i8080 }, mem := [(0x2000, 0x0F)] } (fun t => (t.a, t.f)) =
      some (0xF0, fl 0 1 1 0 0) := by decide
/-- A29: c, z, s and p after XRA A; ac is free. -/
theorem test_xra_a :
    after .xraA (withA 0xFF (fl 0 0 0 0 1)) (fun t => (t.a, t.f.z, t.f.s, t.f.p, t.f.c)) =
      some (0x00, true, false, true, false) := by decide
/-- A27, S4: ORA A clears the carry. -/
theorem test_ora_a : after .oraA (withA 0x80 (fl 1 0 1 1 1)) (fun t => (t.a, t.f)) = some (0x80, fl 0 1 0 0 0) := by decide
/-- A34: DAD writes c only. -/
theorem test_dad_h :
    after .dadH { small with h := 0x80, l := 0x00, f := fl 0 1 0 1 0 } (fun t => (t.hl, t.f)) =
      some (0x0000, fl 0 1 0 1 1) := by decide
/-- A38, A40. -/
theorem test_inx_dcx_wrap :
    after .inxSp { small with sp := 0xFFFF } State.sp = some 0x0000 ∧
    after .dcxD { small with d := 0, e := 0 } (fun t => (t.d, t.e)) = some (0xFF, 0xFF) := by decide
/-- D1, D2, D4. -/
theorem test_daa :
    [withA 0x0D (fl 0 0 0 0 0), withA 0x9A (fl 0 0 0 0 0), withA 0x32 (fl 0 0 0 1 1)].map
        (fun s => after .daa s (fun t => (t.a, t.f))) =
      [some (0x13, fl 0 0 0 1 0), some (0x00, fl 1 0 1 1 1), some (0x98, fl 0 1 0 0 1)] := by decide

/-! ## Rotates and specials -/

/-- R1, R4, R6, R7 of the vectors. -/
theorem test_rotates :
    after .rlc (withA 0x80 (fl 0 0 0 0 0)) (fun t => (t.a, t.f)) = some (0x01, fl 0 0 0 0 1) ∧
    after .rrc (withA 0xFE (fl 0 0 0 0 1)) (fun t => (t.a, t.f)) = some (0x7F, fl 0 0 0 0 0) ∧
    after .ral (withA 0x00 (fl 0 0 0 0 1)) (fun t => (t.a, t.f)) = some (0x01, fl 0 0 0 0 0) ∧
    after .rar (withA 0x01 (fl 0 0 0 0 0)) (fun t => (t.a, t.f)) = some (0x00, fl 0 0 0 0 1) := by decide
/-- R13, R15, R17 of the vectors. -/
theorem test_specials :
    after .cma (withA 0xFF (fl 0 0 0 0 1)) (fun t => (t.a, t.f)) = some (0x00, fl 0 0 0 0 1) ∧
    after .stc (withA 0x00 (fl 0 0 0 0 0)) State.f = some (fl 0 0 0 0 1) ∧
    after .cmc (withA 0x00 (fl 0 0 0 0 1)) State.f = some (fl 0 0 0 0 0) := by decide

/-! ## Control transfer and control -/

/-- B5: the return address wraps. -/
theorem test_call_at_top :
    stepped { State.reset with pc := 0xFFFD, sp := 0x8000, mem := [(0xFFFD, 0xCD), (0xFFFE, 0x00), (0xFFFF, 0x02)] }
      (fun t => (t.pc, t.sp, t.mem.read 0x7FFF, t.mem.read 0x7FFE)) = some (0x0200, 0x7FFE, some 0x00, some 0x00) := by
  decide
/-- B8. -/
theorem test_ret_wraps :
    after .ret { small with sp := 0xFFFF, mem := [(0x0000, 0x56), (0xFFFF, 0x78)] } (fun t => (t.pc, t.sp)) =
      some (0x5678, 0x0001) := by decide
/-- B9 to B16: where each condition looks. -/
theorem test_conditions :
    [(fl 1 0 0 0 0), (fl 0 1 0 0 0), (fl 0 0 1 0 0), (fl 0 0 0 0 1)].map
        (fun f => [Cond.nz, .z, .nc, .c, .po, .pe, .p, .m].map f.holds) =
      [[false, true, true, false, true, false, true, false], [true, false, true, false, true, false, false, true],
        [true, false, true, false, false, true, true, false], [true, false, false, true, true, false, true, false]] := by
  decide
/-- B17: a condition that fails pushes nothing. -/
theorem test_cz_not_taken :
    after (.cz 0x0300) { small with mem := [] } (fun t => (t.pc, t.sp, t.mem)) = some (0x0103, 0x2000, []) := by decide
/-- B20: RST 0 at FFFFh. -/
theorem test_rst0_at_top :
    stepped { State.reset with pc := 0xFFFF, sp := 0xF000, inte := true, mem := [(0xFFFF, 0xC7)] }
      (fun t => (t.pc, t.inte, t.mem.read 0xEFFF, t.mem.read 0xEFFE)) = some (0x0000, false, some 0x00, some 0x00) := by
  decide
/-- B27, B28. -/
theorem test_rst7_inte :
    after .rst7 { small with inte := true } (fun t => (t.pc, t.inte)) = some (0x0038, false) ∧
    after .rst7 { small with inte := true, params := { defaultParams with rstSwClearsInte := false } }
      (fun t => (t.pc, t.inte)) = some (0x0038, true) := by decide
/-- B30: an operand byte is fetched even where the jump is not taken. -/
theorem test_jnz_cut :
    (match step { State.reset with pc := 0x0100, f := fl 1 0 0 0 0, mem := [(0x0100, 0xC2), (0x0101, 0x50)] } with
      | .fault e => some e
      | _ => none) = some (.unwrittenRead 0x0102) := by decide
/-- C1, C2. -/
theorem test_in_out :
    after (.inPort 0x7F) { small with inputs := [0xA5] } (fun t => (t.a, t.events)) = some (0xA5, [.input 0x7F 0xA5]) ∧
    after (.outPort 0x10) { small with a := 0x3C } (fun t => (t.a, t.events)) = some (0x3C, [.output 0x10 0x3C]) := by
  decide
/-- C4, C5, C8. -/
theorem test_control :
    after .ei small State.inte = some true ∧ after .di { small with inte := true } State.inte = some false ∧
    after .hlt small State.halted = some true := by decide
/-- C10. -/
theorem test_reserved : faultOf .reserved08 small = some (.reservedOpcode 0x08) := by decide

/-! ## Interrupt and reset -/

/-- A NOP at 0200h, SP = 2000h, and one recognition point to come. -/
def atNop (inte : Bool) (sig : Signals) : State :=
  { State.reset with pc := 0x0200, sp := 0x2000, inte := inte, signals := [sig], mem := [(0x0200, 0x00)] }

/-- I1. -/
theorem test_interrupt_entry :
    stepped (atNop true ⟨false, some 0xD7⟩) (fun t => (t.pc, t.sp, t.inte, t.mem.read 0x1FFF, t.mem.read 0x1FFE, t.events)) =
      some (0x0010, 0x1FFE, false, some 0x02, some 0x00, [.interrupt 2]) := rfl
/-- I2. -/
theorem test_interrupt_disabled :
    stepped (atNop false ⟨false, some 0xD7⟩) (fun t => (t.pc, t.sp, t.events)) = some (0x0201, 0x2000, []) := by decide
/-- I3, its second step: the halt ends by the entry. -/
theorem test_interrupt_ends_halt :
    stepped { atNop true ⟨false, some 0xFF⟩ with halted := true, pc := 0x0106 }
      (fun t => (t.halted, t.pc, t.mem.read 0x1FFF, t.mem.read 0x1FFE)) = some (false, 0x0038, some 0x01, some 0x06) := by
  decide
/-- I9, I10: reset wins; what it leaves fixed. -/
theorem test_reset_wins :
    stepped { atNop true ⟨true, some 0xC7⟩ with halted := true }
      (fun t => (t.pc, t.inte, t.halted, t.events, t.mem)) = some (0x0000, false, false, [], [(0x0200, 0x00)]) := rfl

/-! ## Placing an instruction -/

/-- The step from `withFetchWord` runs the placed instruction: `LXI H, 0B1Ah` from reset. -/
theorem test_withFetchWord : stepped (State.reset.withFetchWord 24 0x0B1A21) (fun t => (t.h, t.l, t.pc)) =
    some (0x0B, 0x1A, 0x0003) := by decide
/-- Bits above the given ones are 0: `LXI B` with operand bytes of zeros. -/
theorem test_withFetchWord_zeros : stepped (small.withFetchWord 8 0x01) (fun t => (t.b, t.c, t.pc)) =
    some (0x00, 0x00, 0x0106) := by decide

/-! ## Witnesses: the hypotheses of each statement are met

The names end in the name of the statement. -/

/-- ROM, RAM and absent cells at the borders of the map, a cell without content and one with content. -/
theorem witness_MemoryReadsAndWrites :
    bordered.kind 0x1000 = .ram ∧ bordered.kind 0x0FFF = .rom ∧ bordered.kind 0xF000 = .absent ∧
    (bordered.kind 0x0000 ≠ .absent ∧ bordered.mem.read 0x0000 = none) ∧
    (bordered.kind 0xEFFF ≠ .absent ∧ bordered.mem.read 0xEFFF = some 0x55) := by decide

theorem witness_MovLoadsFromMemory :
    (atHl 0xEFFF).read (atHl 0xEFFF).hl = .ok 0x55 ∧ (atHl 0xF000).read (atHl 0xF000).hl = .error (.absentMemory 0xF000) :=
  ⟨rfl, rfl⟩

theorem witness_MovStoresToMemory :
    (atHl 0x1000).Writable (atHl 0x1000).hl ∧
    (atHl 0x0FFF).write (atHl 0x0FFF).hl ((atHl 0x0FFF).reg .b) = .error (.writeToNonRam 0x0FFF) := ⟨rfl, rfl⟩

theorem witness_MviWritesImmediate :
    (atHl 0xEFFF).Writable (atHl 0xEFFF).hl ∧ (atHl 0xF000).write (atHl 0xF000).hl 0x55 = .error (.absentMemory 0xF000) :=
  ⟨rfl, rfl⟩

/-- ADR, BC and DE, each at a readable and at an unreadable address. -/
theorem witness_LdaAndLdaxLoadAccumulator :
    bordered.read 0xEFFF = .ok 0x55 ∧ bordered.read 0xF000 = .error (.absentMemory 0xF000) ∧
    small.read (cat small.b small.c) = .ok 0x66 ∧ small.read (cat small.d small.e) = .ok 0x56 ∧
    bordered.read (cat bordered.b bordered.c) = .error (.unwrittenRead 0x0000) ∧
    bordered.read (cat bordered.d bordered.e) = .error (.unwrittenRead 0x0000) := ⟨rfl, rfl, rfl, rfl, rfl, rfl⟩

/-- ADR, BC and DE, each at a RAM cell and at one that takes no write. -/
theorem witness_StaAndStaxStoreAccumulator :
    bordered.Writable 0x1000 ∧ bordered.write 0x0FFF bordered.a = .error (.writeToNonRam 0x0FFF) ∧
    small.Writable (cat small.b small.c) ∧ small.Writable (cat small.d small.e) ∧
    bordered.write (cat bordered.b bordered.c) bordered.a = .error (.writeToNonRam 0x0000) ∧
    bordered.write (cat bordered.d bordered.e) bordered.a = .error (.writeToNonRam 0x0000) :=
  ⟨rfl, rfl, rfl, rfl, rfl, rfl⟩

/-- The three cases of a push: both cells RAM (at the lower border and across FFFFh), the first not, only the second not. -/
def PushCases (h l : State → Byte) : Prop :=
  ((atSp 0x1002).Writable ((atSp 0x1002).sp - 1) ∧ (atSp 0x1002).Writable ((atSp 0x1002).sp - 2)) ∧
  (({ small with sp := 1 } : State).Writable (1 - 1) ∧ ({ small with sp := 1 } : State).Writable (1 - 2)) ∧
  (atSp 0x1000).write ((atSp 0x1000).sp - 1) (h (atSp 0x1000)) = .error (.writeToNonRam 0x0FFF) ∧
  (∃ w, (atSp 0x1001).write ((atSp 0x1001).sp - 1) (h (atSp 0x1001)) = .ok w ∧
    w.write ((atSp 0x1001).sp - 2) (l (atSp 0x1001)) = .error (.writeToNonRam 0x0FFF))

theorem witness_PushStoresPair : PushCases State.b State.c ∧ PushCases State.d State.e ∧ PushCases State.h State.l :=
  ⟨⟨⟨rfl, rfl⟩, ⟨rfl, rfl⟩, rfl, _, rfl, rfl⟩, ⟨⟨rfl, rfl⟩, ⟨rfl, rfl⟩, rfl, _, rfl, rfl⟩,
    ⟨⟨rfl, rfl⟩, ⟨rfl, rfl⟩, rfl, _, rfl, rfl⟩⟩

theorem witness_PushPswStoresAccumulatorAndFlags :
    PushCases State.a
      (fun s => byte (128 * s.f.s.toNat + 64 * s.f.z.toNat + 16 * s.f.ac.toNat + 4 * s.f.p.toNat + 2 + s.f.c.toNat)) :=
  ⟨⟨rfl, rfl⟩, ⟨rfl, rfl⟩, rfl, _, rfl, rfl⟩

theorem witness_CallPushesPcAndJumps : PushCases (fun s => byte (s.pc.toNat / 256)) (fun s => byte s.pc.toNat) :=
  ⟨⟨rfl, rfl⟩, ⟨rfl, rfl⟩, rfl, _, rfl, rfl⟩

theorem witness_RstRestartsAtArea : PushCases (fun s => byte (s.pc.toNat / 256)) (fun s => byte s.pc.toNat) :=
  ⟨⟨rfl, rfl⟩, ⟨rfl, rfl⟩, rfl, _, rfl, rfl⟩

theorem witness_RetUndoesCall : small.Writable (small.sp - 1) ∧ small.Writable (small.sp - 2) := ⟨rfl, rfl⟩

/-- The three cases of a pop: both bytes read (also across FFFFh), the first does not, only the second does not. -/
def PopCases : Prop :=
  ((atSp 0x0FFF).read (atSp 0x0FFF).sp = .ok 0x22 ∧ (atSp 0x0FFF).read ((atSp 0x0FFF).sp + 1) = .ok 0x33) ∧
  (({ small with sp := 0xFFFF, mem := [(0, 1), (0xFFFF, 2)] } : State).read 0xFFFF = .ok 2 ∧
    ({ small with sp := 0xFFFF, mem := [(0, 1), (0xFFFF, 2)] } : State).read (0xFFFF + 1) = .ok 1) ∧
  (atSp 0xF000).read (atSp 0xF000).sp = .error (.absentMemory 0xF000) ∧
  ((atSp 0xEFFF).read (atSp 0xEFFF).sp = .ok 0x55 ∧
    (atSp 0xEFFF).read ((atSp 0xEFFF).sp + 1) = .error (.absentMemory 0xF000))

theorem witness_PopLoadsPair : PopCases := ⟨⟨rfl, rfl⟩, ⟨rfl, rfl⟩, rfl, rfl, rfl⟩
theorem witness_PopPswLoadsAccumulatorAndFlags : PopCases := ⟨⟨rfl, rfl⟩, ⟨rfl, rfl⟩, rfl, rfl, rfl⟩
theorem witness_RetPopsPc : PopCases := ⟨⟨rfl, rfl⟩, ⟨rfl, rfl⟩, rfl, rfl, rfl⟩

theorem witness_LhldLoadsHl :
    (bordered.read 0x0FFF = .ok 0x22 ∧ bordered.read (0x0FFF + 1) = .ok 0x33) ∧
    bordered.read 0xF000 = .error (.absentMemory 0xF000) ∧
    (bordered.read 0xEFFF = .ok 0x55 ∧ bordered.read (0xEFFF + 1) = .error (.absentMemory 0xF000)) :=
  ⟨⟨rfl, rfl⟩, rfl, rfl, rfl⟩

theorem witness_ShldStoresHl :
    (small.Writable 0xFFFF ∧ small.Writable (0xFFFF + 1)) ∧
    bordered.write 0x0FFF bordered.l = .error (.writeToNonRam 0x0FFF) ∧
    (∃ w, bordered.write 0xEFFF bordered.l = .ok w ∧ w.write (0xEFFF + 1) bordered.h = .error (.absentMemory 0xF000)) :=
  ⟨⟨rfl, rfl⟩, rfl, _, rfl, rfl⟩

/-- The five cases of XTHL. -/
theorem witness_XthlExchangesHlWithStack :
    ((atSp 0x1000).read 0x1000 = .ok 0x33 ∧ (atSp 0x1000).read (0x1000 + 1) = .ok 0x44 ∧ (atSp 0x1000).Writable 0x1000 ∧
      (atSp 0x1000).Writable (0x1000 + 1)) ∧
    (atSp 0xF000).read 0xF000 = .error (.absentMemory 0xF000) ∧
    ((atSp 0xEFFF).read 0xEFFF = .ok 0x55 ∧ (atSp 0xEFFF).read (0xEFFF + 1) = .error (.absentMemory 0xF000)) ∧
    ((atSp 0x0FFE).read 0x0FFE = .ok 0x11 ∧ (atSp 0x0FFE).read (0x0FFE + 1) = .ok 0x22 ∧
      (atSp 0x0FFE).write (0x0FFE + 1) (atSp 0x0FFE).h = .error (.writeToNonRam 0x0FFF)) ∧
    (∃ w, (atSp 0x0FFF).read 0x0FFF = .ok 0x22 ∧ (atSp 0x0FFF).read (0x0FFF + 1) = .ok 0x33 ∧
      (atSp 0x0FFF).write (0x0FFF + 1) (atSp 0x0FFF).h = .ok w ∧
      w.write 0x0FFF (atSp 0x0FFF).l = .error (.writeToNonRam 0x0FFF)) :=
  ⟨⟨rfl, rfl, rfl, rfl⟩, rfl, ⟨rfl, rfl⟩, ⟨rfl, rfl, rfl⟩, _, rfl, rfl, rfl, rfl⟩

/-- An operand in a register, one in M, and an M that does not read. -/
def OperandCases : Prop :=
  small.rd8 (.reg .d) = .ok 0x20 ∧ small.rd8 .m = .ok 0x78 ∧ bordered.rd8 .m = .error (.unwrittenRead 0x0000)

theorem witness_AdditionsWriteSumAndFlags : OperandCases := ⟨rfl, rfl, rfl⟩
theorem witness_SubtractionsWriteDifferenceAndFlags : OperandCases := ⟨rfl, rfl, rfl⟩
theorem witness_OrWritesResultAndFlags : OperandCases := ⟨rfl, rfl, rfl⟩
/-- An operand that reads for CMP; CPI has no premise. -/
theorem witness_CompareOrdersUnsigned : OperandCases := ⟨rfl, rfl, rfl⟩

/-- Every choice of `AC_LOGIC`, with a readable M. -/
theorem witness_AndXorWriteResultAndFlags :
    OperandCases ∧ ∀ v, let s := { small with params := { defaultParams with acLogic := v } }
      s.rd8 .m = .ok 0x78 ∧ s.params.acLogic = v :=
  ⟨⟨rfl, rfl, rfl⟩, fun v => by cases v <;> exact ⟨rfl, rfl⟩⟩

/-- Every choice of `CMP_FLAGS`, with a readable M. -/
theorem witness_CompareWritesFlagsOnly :
    OperandCases ∧ ∀ v, let s := { small with params := { defaultParams with cmpFlags := v } }
      s.rd8 .m = .ok 0x78 ∧ s.params.cmpFlags = v :=
  ⟨⟨rfl, rfl, rfl⟩, fun v => by cases v <;> exact ⟨rfl, rfl⟩⟩

/-- The three cases of INR M and DCR M: in RAM, unreadable, and readable in ROM. -/
def CountCases (r : Byte) : Prop :=
  ((atHl 0x1000).read (atHl 0x1000).hl = .ok 0x33 ∧ (atHl 0x1000).Writable (atHl 0x1000).hl) ∧
  (atHl 0xF000).read (atHl 0xF000).hl = .error (.absentMemory 0xF000) ∧
  ((atHl 0x0FFF).read (atHl 0x0FFF).hl = .ok 0x22 ∧
    (atHl 0x0FFF).write (atHl 0x0FFF).hl r = .error (.writeToNonRam 0x0FFF))

theorem witness_InrCountsUp : CountCases (byte ((0x22 : Byte).toNat + 1)) := ⟨⟨rfl, rfl⟩, rfl, rfl, rfl⟩
theorem witness_DcrCountsDown : CountCases (byte ((0x22 : Byte).toNat + 255)) := ⟨⟨rfl, rfl⟩, rfl, rfl, rfl⟩

/-- Every choice of `DAA_FN`. -/
theorem witness_DaaAdjusts : ∀ v, ({ defaultParams with daaFn := v } : Params).daaFn = v := fun _ => rfl

/-- 99 + 99 with the carry: the largest decimal sum. -/
theorem witness_DaaCorrectsDecimalSum :
    let s : State := { withA 0x99 (fl 0 0 0 0 1) with b := 0x99 }
    s.params.daaFn = .adjust ∧ Packed s.a ∧ Packed 0x99 ∧ s.rd8 (.reg .b) = .ok 0x99 :=
  ⟨rfl, ⟨by decide, by decide⟩, ⟨by decide, by decide⟩, rfl⟩

/-- Each condition holds for some flags and fails for some. -/
def ConditionCases : Prop := ∀ k, ∃ f g, condTrue k f ∧ ¬condTrue k g

theorem condition_cases : ConditionCases := fun k =>
  match k with
  | .nz => ⟨fl 0 0 0 0 0, fl 1 0 0 0 0, rfl, Bool.noConfusion⟩
  | .z => ⟨fl 1 0 0 0 0, fl 0 0 0 0 0, rfl, Bool.noConfusion⟩
  | .nc => ⟨fl 0 0 0 0 0, fl 0 0 0 0 1, rfl, Bool.noConfusion⟩
  | .c => ⟨fl 0 0 0 0 1, fl 0 0 0 0 0, rfl, Bool.noConfusion⟩
  | .po => ⟨fl 0 0 0 0 0, fl 0 0 1 0 0, rfl, Bool.noConfusion⟩
  | .pe => ⟨fl 0 0 1 0 0, fl 0 0 0 0 0, rfl, Bool.noConfusion⟩
  | .p => ⟨fl 0 0 0 0 0, fl 0 1 0 0 0, rfl, Bool.noConfusion⟩
  | .m => ⟨fl 0 1 0 0 0, fl 0 0 0 0 0, rfl, Bool.noConfusion⟩

/-- Flags for which the condition holds. -/
def holding : Cond → Flags
  | .nz | .nc | .po | .p => fl 0 0 0 0 0
  | .z => fl 1 0 0 0 0
  | .c => fl 0 0 0 0 1
  | .pe => fl 0 0 1 0 0
  | .m => fl 0 1 0 0 0

theorem holding_true (k : Cond) : condTrue k (holding k) := by cases k <;> rfl

theorem witness_JumpsLoadPc : ConditionCases := condition_cases

/-- A condition that holds, together with each of the three cases of a push. -/
theorem witness_ConditionalCallsCallOrGoOn :
    ConditionCases ∧ ∀ k, ∃ f, condTrue k f ∧
      (let s : State := { atSp 0x1002 with f := f }; s.Writable (s.sp - 1) ∧ s.Writable (s.sp - 2)) ∧
      (let s : State := { atSp 0x1000 with f := f }
       s.write (s.sp - 1) (byte (s.pc.toNat / 256)) = .error (.writeToNonRam 0x0FFF)) ∧
      (let s : State := { atSp 0x1001 with f := f }
       ∃ w, s.write (s.sp - 1) (byte (s.pc.toNat / 256)) = .ok w ∧
        w.write (s.sp - 2) (byte s.pc.toNat) = .error (.writeToNonRam 0x0FFF)) :=
  ⟨condition_cases, fun k => ⟨holding k, holding_true k, by cases k <;> exact ⟨⟨rfl, rfl⟩, rfl, _, rfl, rfl⟩⟩⟩

/-- A condition that holds, together with each of the three cases of a pop. -/
theorem witness_ConditionalReturnsReturnOrGoOn :
    ConditionCases ∧ ∀ k, ∃ f, condTrue k f ∧
      (let s : State := { atSp 0x0FFF with f := f }; s.read s.sp = .ok 0x22 ∧ s.read (s.sp + 1) = .ok 0x33) ∧
      (let s : State := { atSp 0xF000 with f := f }; s.read s.sp = .error (.absentMemory 0xF000)) ∧
      (let s : State := { atSp 0xEFFF with f := f }
       s.read s.sp = .ok 0x55 ∧ s.read (s.sp + 1) = .error (.absentMemory 0xF000)) :=
  ⟨condition_cases, fun k => ⟨holding k, holding_true k, by cases k <;> exact ⟨⟨rfl, rfl⟩, rfl, rfl, rfl⟩⟩⟩

theorem witness_InReadsPort :
    ({ small with inputs := [0xA5, 0x01] } : State).inputs = 0xA5 :: [0x01] ∧ small.inputs = [] := ⟨rfl, rfl⟩

/-- `s` with the effect `x` for the first byte 08h. -/
def undoc (x : UndocEffect) (s : State) : State := { s with params := { s.params with undocOpcodes := [(0x08, x)] } }

/-- The three cases of the fetch of an address: readable, no first byte, no second byte. -/
def AddressCases (x : UndocEffect) : Prop :=
  (let s := undoc x (bordered.setPc 0x0FFF); s.read s.pc = .ok 0x22 ∧ s.read (s.pc + 1) = .ok 0x33) ∧
  (let s := undoc x (bordered.setPc 0xF000); s.read s.pc = .error (.absentMemory 0xF000)) ∧
  (let s := undoc x (bordered.setPc 0xEFFF); s.read s.pc = .ok 0x55 ∧ s.read (s.pc + 1) = .error (.absentMemory 0xF000))

/-- Every effect, and with each the cases of its fetch, of its push (after an address that is fetched) and of its pop. -/
theorem witness_ReservedBytesFollowUndocOpcodes :
    Instr.wellFormed .reserved08 = false ∧ encode .reserved08 = [0x08] ∧
    (∀ x s, undocEffect (undoc x s).params.undocOpcodes 0x08 = x) ∧ (∀ x, AddressCases x) ∧
    (let s := undoc .call ((atSp 0x1002).setPc 0x0FFF); s.Writable (s.sp - 1) ∧ s.Writable (s.sp - 2)) ∧
    (let s := undoc .call ((atSp 0x1000).setPc 0x0FFF)
     s.write (s.sp - 1) (byte ((s.pc + 2).toNat / 256)) = .error (.writeToNonRam 0x0FFF)) ∧
    (let s := undoc .call ((atSp 0x1001).setPc 0x0FFF)
     ∃ w, s.write (s.sp - 1) (byte ((s.pc + 2).toNat / 256)) = .ok w ∧
       w.write (s.sp - 2) (byte (s.pc + 2).toNat) = .error (.writeToNonRam 0x0FFF)) ∧
    (let s := undoc .ret (atSp 0x0FFF); s.read s.sp = .ok 0x22 ∧ s.read (s.sp + 1) = .ok 0x33) ∧
    (let s := undoc .ret (atSp 0xF000); s.read s.sp = .error (.absentMemory 0xF000)) ∧
    (let s := undoc .ret (atSp 0xEFFF); s.read s.sp = .ok 0x55 ∧ s.read (s.sp + 1) = .error (.absentMemory 0xF000)) :=
  ⟨rfl, rfl, fun _ _ => rfl, fun x => by cases x <;> exact ⟨⟨rfl, rfl⟩, rfl, rfl, rfl⟩,
    ⟨rfl, rfl⟩, rfl, ⟨_, rfl, rfl⟩, ⟨rfl, rfl⟩, rfl, rfl, rfl⟩

/-- An effect other than the default: 08h as CALL, with the address 3322h at pc. -/
theorem test_reserved_as_call :
    (match exec .reserved08 (undoc .call ((atSp 0x1002).setPc 0x0FFF)) with
      | .next t => some (t.pc, t.sp, t.mem.read 0x1001, t.mem.read 0x1000)
      | _ => none) = some (0x3322, 0x1000, some 0x10, some 0x01) := rfl

theorem witness_EncodeOfDecode : decode [0x3A, 0xFF, 0xFF, 0x00] = .ok (.lda 0xFFFF, [0x00]) := rfl

/-- A three-byte instruction across FFFFh, with an ignored request present. -/
def acrossTop : State :=
  { State.reset with
    pc := 0xFFFE, signals := [⟨false, some 0xFF⟩], mem := [(0x0000, 0x02), (0xFFFE, 0xC3), (0xFFFF, 0x50)] }

theorem witness_StepRunsDecodedInstruction :
    acrossTop.sample.resetLine = false ∧ acrossTop.inte = false ∧ acrossTop.halted = false ∧
    (∀ (k : Nat) (h : k < [0xC3, 0x50, 0x02].length),
      acrossTop.read (acrossTop.pc + BitVec.ofNat 16 k) = .ok ([0xC3, 0x50, 0x02] : List Byte)[k]) ∧
    decode [0xC3, 0x50, 0x02] = .ok (.jmp 0x0250, []) := by
  refine ⟨rfl, rfl, rfl, ?_, rfl⟩
  intro k h
  match k, h with
  | 0, _ => rfl
  | 1, _ => rfl
  | 2, _ => rfl

/-- A reserved first byte at pc, in a quiet environment. -/
def atReserved : State := { State.reset with pc := 0x0200, mem := [(0x0200, 0xCB)] }

theorem witness_StepRunsDecodedInstruction_reserved :
    atReserved.sample.resetLine = false ∧ atReserved.sample.intr = none ∧ atReserved.halted = false ∧
    (∀ (k : Nat) (h : k < [0xCB].length),
      atReserved.read (atReserved.pc + BitVec.ofNat 16 k) = .ok ([0xCB] : List Byte)[k]) ∧
    decode [0xCB] = .ok (.reservedCB, []) := by
  refine ⟨rfl, rfl, rfl, ?_, rfl⟩
  intro k h
  match k, h with
  | 0, _ => rfl

/-- R92, R104: the step at a reserved first byte is the fault that names it. -/
theorem test_step_at_reserved : step atReserved = .fault (.reservedOpcode 0xCB) := rfl

/-- The first, the second and the third byte cannot be fetched; a quiet environment. -/
theorem witness_FetchStopsAtMissingByte :
    bordered.sample.resetLine = false ∧ bordered.sample.intr = none ∧ bordered.halted = false ∧
    bordered.read bordered.pc = .error (.unwrittenRead 0x0000) ∧
    (let s : State := { bordered with pc := 0xEFFF, mem := [(0xEFFF, 0x3E)] }
     s.read s.pc = .ok 0x3E ∧ 2 ≤ instrLength 0x3E ∧ s.read (s.pc + 1) = .error (.absentMemory 0xF000)) ∧
    (let s : State := { bordered with pc := 0xEFFE, mem := [(0xEFFE, 0xC2), (0xEFFF, 0x50)] }
     s.read s.pc = .ok 0xC2 ∧ s.read (s.pc + 1) = .ok 0x50 ∧ 3 ≤ instrLength 0xC2 ∧
      s.read (s.pc + 2) = .error (.absentMemory 0xF000)) :=
  ⟨rfl, rfl, rfl, rfl, ⟨rfl, by decide, rfl⟩, rfl, rfl, by decide, rfl⟩

/-- A step that stores: `STA 1000h`. -/
def storing : State :=
  { bordered with pc := 0x0000, mem := [(0x0000, 0x32), (0x0001, 0x00), (0x0002, 0x10)] }

theorem witness_StepKeepsMemoryCanonical : storing.Inv ∧ ∃ t, step storing = .next t := ⟨rfl, _, rfl⟩

theorem witness_StepChangesOnlyRam : (∃ t, step storing = .next t) ∧ storing.kind 0x0FFF ≠ .ram ∧ storing.kind 0xF000 ≠ .ram :=
  ⟨⟨_, rfl⟩, by decide, by decide⟩

/-- `MOV B, C`, whose first byte is no flag writer. -/
theorem witness_OtherInstructionsKeepFlags :
    encode .movBC = 0x41 :: [] ∧ ¬FlagWriter (0x41 : Byte).toNat ∧ ∃ t, exec .movBC small = .next t :=
  ⟨rfl, by unfold FlagWriter; decide, _, rfl⟩

/-- Values for `RESET_VALUES`. -/
def someResetValues : ResetValues := ⟨0x0A, 0x0B, 0x0C, 0x0D, 0x0E, 0x11, 0x12, 0xF000, fl 1 0 1 0 1⟩

theorem witness_ResetEventWins :
    let s := atNop true ⟨true, some 0xC7⟩
    let t := { s with params := { defaultParams with resetValues := some someResetValues } }
    s.sample.resetLine = true ∧ t.sample.resetLine = true ∧ t.params.resetValues = some someResetValues := ⟨rfl, rfl, rfl⟩

theorem witness_InterruptEntryPushesPc :
    let s := atNop true ⟨false, some 0xD7⟩
    s.sample.resetLine = false ∧ s.sample.intr = some (byte (0xC7 + 8 * (2 : BitVec 3).toNat)) ∧ s.inte = true ∧
    s.params.eiDelay = false ∧ s.Writable (s.sp - 1) ∧ s.Writable (s.sp - 2) := ⟨rfl, rfl, rfl, rfl, rfl, rfl⟩

/-- `bordered` with SP = `v` and a request accepted. -/
def requestAtSp (v : Word) : State := { atSp v with inte := true, signals := [⟨false, some 0xD7⟩] }

/-- Each of the two stack writes of the entry falls on ROM. -/
theorem witness_InterruptEntryPushesPc_faults :
    (∀ v, let s := requestAtSp v
      s.sample.resetLine = false ∧ s.sample.intr = some (byte (0xC7 + 8 * (2 : BitVec 3).toNat)) ∧ s.inte = true ∧
      s.params.eiDelay = false) ∧
    (let s := requestAtSp 0x1000
     s.write (s.sp - 1) (byte (s.pc.toNat / 256)) = .error (.writeToNonRam 0x0FFF)) ∧
    (let s := requestAtSp 0x1001
     ∃ w, s.write (s.sp - 1) (byte (s.pc.toNat / 256)) = .ok w ∧
       w.write (s.sp - 2) (byte s.pc.toNat) = .error (.writeToNonRam 0x0FFF)) :=
  ⟨fun _ => ⟨rfl, rfl, rfl, rfl⟩, rfl, _, rfl, rfl⟩

/-- The two other grounds on which a request is accepted: no EI just completed, and the halt. -/
theorem witness_InterruptEntryPushesPc_delay :
    let s := { atNop true ⟨false, some 0xD7⟩ with params := { defaultParams with eiDelay := true } }
    (s.params.eiDelay = true ∧ s.justEi = false) ∧
    (({ s with justEi := true, halted := true } : State).halted = true) := ⟨⟨rfl, rfl⟩, rfl⟩

/-- Interrupts disabled; and EI just completed with `EI_DELAY = 1`. -/
theorem witness_RequestIgnoredWhileDisabled :
    ((atNop false ⟨false, some 0xD7⟩).sample.resetLine = false ∧ (atNop false ⟨false, some 0xD7⟩).inte = false) ∧
    (let s := { atNop true ⟨false, some 0xD7⟩ with params := { defaultParams with eiDelay := true }, justEi := true }
     s.sample.resetLine = false ∧ s.params.eiDelay = true ∧ s.justEi = true ∧ s.halted = false) :=
  ⟨⟨rfl, rfl⟩, rfl, rfl, rfl, rfl⟩

/-- Halted with nothing asserted, and halted with an ignored request. -/
theorem witness_HaltKeepsState :
    (let s := { atNop true Signals.quiet with halted := true }
     s.halted = true ∧ s.sample.resetLine = false ∧ s.sample.intr = none) ∧
    (let s := { atNop false ⟨false, some 0xFF⟩ with halted := true }
     s.halted = true ∧ s.sample.resetLine = false ∧ s.inte = false) := ⟨⟨rfl, rfl, rfl⟩, rfl, rfl, rfl⟩

/-- A CALL byte supplied. -/
theorem witness_SuppliedNotRstRefused :
    let s := atNop true ⟨false, some 0xCD⟩
    s.sample.resetLine = false ∧ s.sample.intr = some 0xCD ∧ s.inte = true ∧ s.params.eiDelay = false ∧
    ∀ n : BitVec 3, (0xCD : Byte) ≠ byte (0xC7 + 8 * n.toNat) := ⟨rfl, rfl, rfl, rfl, by decide⟩

theorem witness_OnlyEiEnablesInterrupts :
    let s := { atNop false Signals.quiet with mem := [(0x0200, 0xFB)] }
    s.inte = false ∧ ∃ t, step s = .next t ∧ t.inte = true := ⟨rfl, _, rfl, rfl⟩

/-- The halt ended by reset, and by a request. -/
theorem witness_HaltEndsOnlyByResetOrInterrupt :
    (let s := { atNop false ⟨true, none⟩ with halted := true }
     s.halted = true ∧ ∃ t, step s = .next t ∧ t.halted = false) ∧
    (let s := { atNop true ⟨false, some 0xFF⟩ with halted := true }
     s.halted = true ∧ ∃ t, step s = .next t ∧ t.halted = false) := ⟨⟨rfl, _, rfl, rfl⟩, rfl, _, rfl, rfl⟩

end Sys2Proof.Tests
end

section
/-! SUPPORT. What fetching, pushing and popping answer, success and faults alike, and what a step is when it runs an
instruction: the reasoning rules behind the statements of 30_encoding.md. -/

open Sys2Proof.Vocabulary

namespace Sys2Proof.Machine

/-! ## The halves of a word as numbers -/

theorem hi_eq_byte (v : Word) : hi v = byte (v.toNat / 256) := by
  apply BitVec.eq_of_toNat_eq
  simp [hi, byte, Nat.shiftRight_eq_div_pow]

theorem lo_eq_byte (v : Word) : lo v = byte v.toNat := by
  apply BitVec.eq_of_toNat_eq
  simp [lo, byte]

/-- Going on by one byte and again by one is going on by two (R27). -/
theorem add_one_add_one (v : Word) : v + 1 + 1 = v + 2 := BitVec.add_assoc v 1 1

theorem add_two_add_one (v : Word) : v + 2 + 1 = v + 3 := BitVec.add_assoc v 2 1

section Fetch

variable {s : State} {e : Fault}

/-! ## Fetching one byte and an address (R92, R96) -/

theorem State.fetch8_of_read {v : Byte} (h : s.read s.pc = .ok v) : s.fetch8 = .ok (v, s.setPc (s.pc + 1)) :=
  State.fetch8_eq_ok.2 ⟨h, rfl⟩

theorem State.fetch8_of_read_error (h : s.read s.pc = .error e) : s.fetch8 = .error e := by
  simp [State.fetch8, h]

/-- The fetch with pc moved to `x` is that of the byte at `x`. -/
theorem State.fetch8_setPc_of_read {x : Word} {v : Byte} (h : s.read x = .ok v) :
    (s.setPc x).fetch8 = .ok (v, s.setPc (x + 1)) := State.fetch8_of_read h

theorem State.fetch8_setPc_of_read_error {x : Word} (h : s.read x = .error e) : (s.setPc x).fetch8 = .error e :=
  State.fetch8_of_read_error h

theorem State.fetch16_of_reads {low high : Byte} (hl : s.read s.pc = .ok low) (hh : s.read (s.pc + 1) = .ok high) :
    s.fetch16 = .ok (cat high low, s.setPc (s.pc + 2)) :=
  State.fetch16_eq_ok.2 ⟨low, high, hl, hh, rfl, by rw [add_one_add_one]⟩

theorem State.fetch16_of_first_error (h : s.read s.pc = .error e) : s.fetch16 = .error e := by
  simp only [State.fetch16, State.fetch8_of_read_error h, error_bind]

theorem State.fetch16_of_second_error {low : Byte} (hl : s.read s.pc = .ok low) (hh : s.read (s.pc + 1) = .error e) :
    s.fetch16 = .error e := by
  simp only [State.fetch16, State.fetch8_of_read hl, State.fetch8_setPc_of_read_error hh, ok_bind, error_bind]

/-! ## Fetching an instruction: an equation for each length, a fault for each byte (R92, R98) -/

theorem State.fetchIf_of_present {n : Nat} {op : Byte} (h : n ≤ instrLength op) :
    s.fetchIf (decide (n ≤ instrLength op)) = s.fetch8 := by
  rw [decide_eq_true h]; rfl

theorem State.fetchIf_of_absent {n : Nat} {op : Byte} (h : instrLength op < n) :
    s.fetchIf (decide (n ≤ instrLength op)) = .ok (0, s) := by
  rw [decide_eq_false (Nat.not_le.2 h)]; rfl

theorem State.fetchInstr_of_length_one {op : Byte} (h1 : s.read s.pc = .ok op) (hlen : instrLength op = 1) :
    s.fetchInstr = .ok (decodeBytes op 0 0, s.setPc (s.pc + 1)) := by
  simp only [State.fetchInstr, State.fetch8_of_read h1, State.fetchIf_of_absent (show instrLength op < 2 by omega),
    State.fetchIf_of_absent (show instrLength op < 3 by omega), ok_bind]

theorem State.fetchInstr_of_length_two {op b2 : Byte} (h1 : s.read s.pc = .ok op) (h2 : s.read (s.pc + 1) = .ok b2)
    (hlen : instrLength op = 2) : s.fetchInstr = .ok (decodeBytes op b2 0, s.setPc (s.pc + 2)) := by
  simp only [State.fetchInstr, State.fetch8_of_read h1, State.fetchIf_of_present hlen.ge,
    State.fetch8_setPc_of_read h2, State.fetchIf_of_absent (show instrLength op < 3 by omega), add_one_add_one, ok_bind]

theorem State.fetchInstr_of_length_three {op b2 b3 : Byte} (h1 : s.read s.pc = .ok op)
    (h2 : s.read (s.pc + 1) = .ok b2) (h3 : s.read (s.pc + 2) = .ok b3) (hlen : instrLength op = 3) :
    s.fetchInstr = .ok (decodeBytes op b2 b3, s.setPc (s.pc + 3)) := by
  simp only [State.fetchInstr, State.fetch8_of_read h1, State.fetchIf_of_present (show 2 ≤ instrLength op by omega),
    State.fetch8_setPc_of_read h2, add_one_add_one, State.fetchIf_of_present hlen.ge, State.fetch8_setPc_of_read h3,
    add_two_add_one, ok_bind]

theorem State.fetchInstr_of_first_error (h : s.read s.pc = .error e) : s.fetchInstr = .error e := by
  simp only [State.fetchInstr, State.fetch8_of_read_error h, error_bind]

theorem State.fetchInstr_of_second_error {op : Byte} (h1 : s.read s.pc = .ok op) (hlen : 2 ≤ instrLength op)
    (h2 : s.read (s.pc + 1) = .error e) : s.fetchInstr = .error e := by
  simp only [State.fetchInstr, State.fetch8_of_read h1, State.fetchIf_of_present hlen,
    State.fetch8_setPc_of_read_error h2, ok_bind, error_bind]

theorem State.fetchInstr_of_third_error {op b2 : Byte} (h1 : s.read s.pc = .ok op) (h2 : s.read (s.pc + 1) = .ok b2)
    (hlen : 3 ≤ instrLength op) (h3 : s.read (s.pc + 2) = .error e) : s.fetchInstr = .error e := by
  simp only [State.fetchInstr, State.fetch8_of_read h1, State.fetchIf_of_present (show 2 ≤ instrLength op by omega),
    State.fetch8_setPc_of_read h2, add_one_add_one, State.fetchIf_of_present hlen, State.fetch8_setPc_of_read_error h3,
    ok_bind, error_bind]

end Fetch

/-! ## What decodes (R90, R98) -/

/-- Bytes that decode: a first byte, as many operand bytes as its length asks for, and the rest. -/
theorem decode_eq_ok {bytes rest : List Byte} {i : Instr} :
    decode bytes = .ok (i, rest) ↔
      (∃ op, bytes = op :: rest ∧ instrLength op = 1 ∧ i = decodeBytes op 0 0) ∨
      (∃ op b2, bytes = op :: b2 :: rest ∧ instrLength op = 2 ∧ i = decodeBytes op b2 0) ∨
      (∃ op b2 b3, bytes = op :: b2 :: b3 :: rest ∧ instrLength op = 3 ∧ i = decodeBytes op b2 b3) := by
  constructor
  · intro h
    unfold decode at h
    split at h
    · cases h
    · split at h
      · cases h; exact .inr (.inl ⟨_, _, rfl, by assumption, rfl⟩)
      · cases h; exact .inr (.inr ⟨_, _, _, rfl, by assumption, rfl⟩)
      · cases h; exact .inl ⟨_, rfl, by assumption, rfl⟩
      · cases h
  · rintro (⟨op, rfl, hlen, rfl⟩ | ⟨op, b2, rfl, hlen, rfl⟩ | ⟨op, b2, b3, rfl, hlen, rfl⟩) <;> simp [decode, hlen]

/-- The fetch agrees with the decoder: where the bytes from pc on are those of an instruction, that instruction is fetched
and pc goes past them. -/
theorem State.fetchInstr_of_decode {s : State} {bytes : List Byte} {i : Instr}
    (hread : ∀ (k : Nat) (h : k < bytes.length), s.read (s.pc + BitVec.ofNat 16 k) = .ok bytes[k])
    (hdec : decode bytes = .ok (i, [])) :
    s.fetchInstr = .ok (i, s.setPc (s.pc + BitVec.ofNat 16 bytes.length)) := by
  rcases decode_eq_ok.1 hdec with ⟨op, rfl, hlen, rfl⟩ | ⟨op, b2, rfl, hlen, rfl⟩ | ⟨op, b2, b3, rfl, hlen, rfl⟩
  · exact State.fetchInstr_of_length_one (by simpa using hread 0 (by simp)) hlen
  · exact State.fetchInstr_of_length_two (by simpa using hread 0 (by simp)) (hread 1 (by simp)) hlen
  · exact State.fetchInstr_of_length_three (by simpa using hread 0 (by simp)) (hread 1 (by simp)) (hread 2 (by simp)) hlen

/-! ## The step that fetches (R254) -/

/-- Without reset, without an acceptable request and without a halt, the step runs the next instruction. -/
theorem step_eq_runInstr {s : State} (hreset : s.sample.resetLine = false)
    (hintr : s.sample.intr = none ∨ s.inte = false) (hhalt : s.halted = false) : step s = runInstr s.dropSample := by
  cases hreq : s.sample.intr with
  | none => simp [step, cycle, hreset, hreq, continueRun, hhalt]
  | some byte =>
    have hinte : s.inte = false := hintr.resolve_left (by simp [hreq])
    simp [step, cycle, hreset, hreq, State.accepts, hinte, continueRun, hhalt]

theorem runInstr_of_fetch {s t : State} {i : Instr} (h : s.fetchInstr = .ok (i, t)) :
    runInstr s = exec i (t.setJustEi false) := by
  simp [runInstr, h]

theorem runInstr_of_fetch_error {s : State} {e : Fault} (h : s.fetchInstr = .error e) : runInstr s = .fault e := by
  simp [runInstr, h]

/-! ## Pushing and popping, with the faults (R28, R29) -/

section Stack

variable {s : State} {e : Fault}

theorem State.push16_of_writable (v : Word) (h1 : s.Writable (s.sp - 1)) (h2 : s.Writable (s.sp - 2)) :
    s.push16 v =
      .ok ((s.setMem ((s.mem.write (s.sp - 1).toNat (hi v)).write (s.sp - 2).toNat (lo v))).setSp (s.sp - 2)) :=
  State.push16_eq_ok.2 ⟨h1, h2, rfl⟩

theorem State.push16_of_high_error {v : Word} (h : s.write (s.sp - 1) (hi v) = .error e) : s.push16 v = .error e := by
  simp only [State.push16, h, error_bind]

theorem State.push16_of_low_error {v : Word} {w : State} (h1 : s.write (s.sp - 1) (hi v) = .ok w)
    (h2 : w.write (s.sp - 2) (lo v) = .error e) : s.push16 v = .error e := by
  simp only [State.push16, h1, h2, ok_bind, error_bind]

/-- What every address reads after a push: the two bytes of the word in the two cells, all else as before. -/
theorem State.stored2_of_push16 {t : State} {v : Word} (h : s.push16 v = .ok t) :
    Stored2 s t (s.sp - 1) (hi v) (s.sp - 2) (lo v) := by
  obtain ⟨h1, h2, rfl⟩ := State.push16_eq_ok.1 h
  have apart : s.sp - 1 ≠ s.sp - 2 := by bv_omega
  intro y
  have low := State.read_setMem_write (s := s.setMem (s.mem.write (s.sp - 1).toNat (hi v))) h2 y (lo v)
  rw [State.read_setMem_write h1 y (hi v)] at low
  refine low.trans ?_
  by_cases hy : y = s.sp - 1
  · simp only [if_pos hy, if_neg (hy ▸ apart : y ≠ s.sp - 2)]
  · simp only [if_neg hy]

/-- An outcome that is a push of `v` followed by an update `k` of other fields than memory is that of pushing the two bytes
of `v`. -/
theorem pushes_of_push16 {o : Out} {u : State} (v : Word) (k : State → State)
    (ho : o = outcome (s.push16 v >>= fun t => .ok (k t))) (hread : ∀ t, (k t).read = t.read)
    (hframe : ∀ m, SameButMem (k ((s.setMem m).setSp (s.sp - 2))) u) : Pushes o s (hi v) (lo v) u := by
  subst ho
  refine ⟨fun h1 h2 => ?_, fun e h => ?_, fun w e h1 h2 => ?_⟩
  · have pushed := State.push16_of_writable v h1 h2
    refine ⟨_, by rw [pushed]; rfl, hframe _, fun y => ?_⟩
    rw [hread]
    exact State.stored2_of_push16 pushed y
  · rw [State.push16_of_high_error h]; rfl
  · rw [State.push16_of_low_error h1 h2]; rfl

/-- A push neither looks at pc nor moves it. -/
theorem State.push16_setPc (s : State) (x v : Word) :
    (s.setPc x).push16 v = s.push16 v >>= fun t => .ok (t.setPc x) := by
  simp only [State.push16, State.write, State.setPc_kind, State.setPc_sp]
  cases s.kind (s.sp - 1) with
  | ram =>
    simp only [ok_bind, State.setMem_kind, State.setPc_kind]
    cases s.kind (s.sp - 2) <;> rfl
  | rom => rfl
  | absent => rfl

/-- CALL from `x`, wherever pc stands (R202): pushes `x` and goes on at `target`. -/
theorem pushes_callTo (s : State) (x target : Word) :
    Pushes (outcome ((s.setPc x).callTo target)) s (byte (x.toNat / 256)) (byte x.toNat)
      { s with sp := s.sp - 2, pc := target } := by
  rw [← hi_eq_byte, ← lo_eq_byte]
  refine pushes_of_push16 x (fun t => t.setPc target) ?_ (fun _ => rfl) (fun _ => rfl)
  rw [State.callTo, State.push16_setPc, State.setPc_pc]
  cases s.push16 x <;> rfl

theorem State.returnToCaller_of_reads {low high : Byte} (hl : s.read s.sp = .ok low)
    (hh : s.read (s.sp + 1) = .ok high) :
    s.returnToCaller = .ok { s with sp := s.sp + 2, pc := cat high low } :=
  State.returnToCaller_eq_ok.2 ⟨_, _, State.pop16_eq_ok.2 ⟨low, high, hl, hh, rfl, rfl⟩, rfl⟩

theorem State.returnToCaller_of_low_error (h : s.read s.sp = .error e) : s.returnToCaller = .error e := by
  simp only [State.returnToCaller, State.pop16, h, error_bind]

theorem State.returnToCaller_of_high_error {low : Byte} (hl : s.read s.sp = .ok low)
    (hh : s.read (s.sp + 1) = .error e) : s.returnToCaller = .error e := by
  simp only [State.returnToCaller, State.pop16, hl, hh, ok_bind, error_bind]

end Stack

/-! ## The reserved first bytes (R104) -/

/-- An instruction of one byte is read back from that byte, constructor by constructor; those with operand bytes do not
meet the hypothesis. -/
theorem decodeBytes_of_encode_singleton {i : Instr} {op : Byte} (h : encode i = [op]) : decodeBytes op 0 0 = i := by
  cases i <;> cases h <;> rfl

/-- The twelve first bytes to which no instruction is assigned. -/
def reservedFirstBytes : List Byte := [0x08, 0x10, 0x18, 0x20, 0x28, 0x30, 0x38, 0xCB, 0xD9, 0xDD, 0xED, 0xFD]

theorem isReserved_decodeBytes : ∀ op ∈ reservedFirstBytes, (decodeBytes op 0 0).isReserved = true := by decide

theorem wellFormed_eq_false_iff {i : Instr} : i.wellFormed = false ↔ i.isReserved = true := by
  simp [Instr.wellFormed]

/-- The ill-formed terms are those encoded by one of the twelve bytes: the byte of each is listed, and a term encoded by a
listed byte is what that byte decodes to. -/
theorem isReserved_iff_encode {i : Instr} :
    i.isReserved = true ↔ ∃ op, encode i = [op] ∧ op ∈ reservedFirstBytes := by
  constructor
  · intro h
    simp only [Instr.isReserved, List.contains_eq_mem, List.mem_cons, List.not_mem_nil, or_false, decide_eq_true_eq] at h
    rcases h with rfl | rfl | rfl | rfl | rfl | rfl | rfl | rfl | rfl | rfl | rfl | rfl <;> exact ⟨_, rfl, by decide⟩
  · rintro ⟨op, henc, hop⟩
    rw [← decodeBytes_of_encode_singleton henc]
    exact isReserved_decodeBytes op hop

/-- The meaning of an ill-formed term is that of its byte. -/
theorem exec_eq_reservedByte {i : Instr} {op : Byte} (hill : i.wellFormed = false) (henc : encode i = [op]) (s : State) :
    exec i s = reservedByte op s := by
  obtain ⟨op', henc', hexec⟩ := exec_reserved s i (wellFormed_eq_false_iff.1 hill)
  obtain rfl : op' = op := List.singleton_inj.1 (henc'.symm.trans henc)
  exact hexec

/-! ## Meanings that fetch an address, and meanings that return -/

/-- A meaning that fetches an address and goes on with `k` does on every address what `k` does, and stops at the byte of the
address that cannot be fetched. -/
theorem onAddress_of_fetch16 {i : Instr} {s : State} {P : Word → Prop} (k : Word → State → Except Fault State)
    (hexec : exec i s = outcome (s.fetch16 >>= fun x => k x.1 x.2))
    (hP : ∀ adr, exec i s = outcome (k adr (s.setPc (s.pc + 2))) → P adr) : OnAddress i s P := by
  refine ⟨fun high low hl hh => hP _ ?_, fun e h => ?_, fun low e hl hh => ?_⟩
  · rw [hexec, State.fetch16_of_reads hl hh]; rfl
  · rw [hexec, State.fetch16_of_first_error h]; rfl
  · rw [hexec, State.fetch16_of_second_error hl hh]; rfl

/-- A meaning that is the return pops pc (R203, R259). -/
theorem popsTo_of_returnToCaller {i : Instr} {s : State} (hexec : exec i s = outcome s.returnToCaller) :
    PopsTo i s (fun high low => { s with sp := s.sp + 2, pc := cat high low }) := by
  refine ⟨fun high low hl hh => ?_, fun e h => ?_, fun low e hl hh => ?_⟩
  · rw [hexec, State.returnToCaller_of_reads hl hh]; rfl
  · rw [hexec, State.returnToCaller_of_low_error h]; rfl
  · rw [hexec, State.returnToCaller_of_high_error hl hh]; rfl

end Sys2Proof.Machine
end

section
/-! SUPPORT. The statements of 30_encoding.md settled. -/

namespace Sys2Proof.Proofs

open Sys2Proof.Machine Sys2Proof.Vocabulary

/-- Settles O43, by the case split over the five effects. -/
theorem reservedBytesFollowUndocOpcodes : Obligations.ReservedBytesFollowUndocOpcodes := by
  refine ⟨fun i => wellFormed_eq_false_iff.trans isReserved_iff_encode, fun op => rfl, fun i s op hill henc => ?_⟩
  have hexec := exec_eq_reservedByte hill henc s
  unfold reservedByte at hexec
  cases heff : undocEffect s.params.undocOpcodes op with
  | fault => simpa only [heff] using hexec
  | nop => simpa only [heff] using hexec
  | jump =>
    simp only [heff] at hexec ⊢
    exact onAddress_of_fetch16 (fun adr t => .ok (t.setPc adr)) hexec fun adr h => h
  | call =>
    simp only [heff] at hexec ⊢
    refine onAddress_of_fetch16 (fun adr t => t.callTo adr) hexec fun adr h => ?_
    rw [PushesTo, h]
    exact pushes_callTo s (s.pc + 2) adr
  | ret =>
    simp only [heff] at hexec ⊢
    exact popsTo_of_returnToCaller hexec

/-- Settles O47: the fetch agrees with the decoder, and the step is the fetch and then `exec`. -/
theorem stepRunsDecodedInstruction : Obligations.StepRunsDecodedInstruction := by
  intro s i bytes hreset hintr hhalt hread hdec
  have fetched : s.dropSample.fetchInstr = _ := State.fetchInstr_of_decode hread hdec
  rw [step_eq_runInstr hreset hintr hhalt, runInstr_of_fetch fetched]
  rfl

/-- Settles O48: each fault of the fetch is the fault of the step. -/
theorem fetchStopsAtMissingByte : Obligations.FetchStopsAtMissingByte := by
  intro s e hreset hintr hhalt
  rw [step_eq_runInstr hreset hintr hhalt]
  refine ⟨fun h1 => ?_, fun op h1 hlen h2 => ?_, fun op b2 h1 h2 hlen h3 => ?_⟩
  · exact runInstr_of_fetch_error (State.fetchInstr_of_first_error h1)
  · exact runInstr_of_fetch_error (State.fetchInstr_of_second_error h1 hlen h2)
  · exact runInstr_of_fetch_error (State.fetchInstr_of_third_error h1 h2 hlen h3)

end Sys2Proof.Proofs
end

section
/-! SUPPORT. What loads, stores, pushes and pops of the transfer instructions answer, success and faults alike: the reasoning
rules behind the statements of 40_transfer.md. -/

open Sys2Proof.Vocabulary

namespace Sys2Proof.Machine

/-! ## A pair written from its two bytes (R10, R24) -/

@[simp] theorem State.setBc_cat (s : State) (high low : Byte) : s.setBc (cat high low) = { s with b := high, c := low } := by
  rw [State.setBc, hi_cat, lo_cat]

@[simp] theorem State.setDe_cat (s : State) (high low : Byte) : s.setDe (cat high low) = { s with d := high, e := low } := by
  rw [State.setDe, hi_cat, lo_cat]

@[simp] theorem State.setHl_cat (s : State) (high low : Byte) : s.setHl (cat high low) = { s with h := high, l := low } := by
  rw [State.setHl, hi_cat, lo_cat]

/-- The flag byte as a number: the weights of D7, D6, D4, D2, the constant D1, and D0 (R34). -/
theorem Flags.byte_eq (f : Flags) :
    f.byte = Vocabulary.byte (128 * f.s.toNat + 64 * f.z.toNat + 16 * f.ac.toNat + 4 * f.p.toNat + 2 + f.c.toNat) := by
  obtain ⟨z, s, p, ac, c⟩ := f
  cases z <;> cases s <;> cases p <;> cases ac <;> cases c <;> rfl

section Access

variable {o : Out} {s : State} {x : Word}

/-! ## One byte loaded, one byte stored (R66, R67) -/

/-- An outcome that is a read of `x` followed by an update with the byte is that update, or the fault of the read. -/
theorem loads_of_read (k : Byte → State) (ho : o = outcome (s.read x >>= fun v => .ok (k v))) :
    (∀ v, s.read x = .ok v → o = .next (k v)) ∧ (∀ e, s.read x = .error e → o = .fault e) := by
  subst ho
  refine ⟨fun v h => ?_, fun e h => ?_⟩
  · rw [h, ok_bind, outcome_ok]
  · rw [h, error_bind, outcome_error]

/-- An outcome that is a write of `v` at `x` changes that byte of RAM alone, or is the fault of the write. -/
theorem stores_of_write {v : Byte} (ho : o = outcome (s.write x v)) :
    (s.Writable x → ∃ t, o = .next t ∧ SameButMem t s ∧ Stored1 s t x v) ∧
    (∀ e, s.write x v = .error e → o = .fault e) := by
  subst ho
  refine ⟨fun hram => ⟨s.setMem (s.mem.write x.toNat v), ?_, rfl, fun y => State.read_setMem_write hram y v⟩, fun e h => ?_⟩
  · rw [State.write_ram hram, outcome_ok]
  · rw [h, outcome_error]

end Access

section Stack

variable {s : State} {e : Fault} {r : StackPair}

/-! ## PUSH and POP of a pair (R130 to R133) -/

/-- PUSH of a pair that is `high` over `low` pushes these two bytes and moves SP (R130, R131). -/
theorem pushesTo_push {high low : Byte} (hpair : s.stackPair r = cat high low) :
    PushesTo (Instr.push r) s high low { s with sp := s.sp - 2 } := by
  have hexec : exec (Instr.push r) s = outcome (s.push16 (cat high low) >>= fun t => .ok (id t)) := by
    rw [exec_push, pushPair, hpair]
    cases s.push16 (cat high low) <;> rfl
  have pushed : PushesTo (Instr.push r) s (hi (cat high low)) (lo (cat high low)) { s with sp := s.sp - 2 } :=
    pushes_of_push16 (cat high low) id hexec (fun _ => rfl) (fun _ => rfl)
  rwa [hi_cat, lo_cat] at pushed

theorem State.pop16_of_reads {low high : Byte} (hl : s.read s.sp = .ok low) (hh : s.read (s.sp + 1) = .ok high) :
    s.pop16 = .ok (cat high low, s.setSp (s.sp + 2)) :=
  State.pop16_eq_ok.2 ⟨low, high, hl, hh, rfl, rfl⟩

theorem State.pop16_of_low_error (h : s.read s.sp = .error e) : s.pop16 = .error e := by
  rw [State.pop16, h, error_bind]

theorem State.pop16_of_high_error {low : Byte} (hl : s.read s.sp = .ok low) (hh : s.read (s.sp + 1) = .error e) :
    s.pop16 = .error e := by
  rw [State.pop16, hl, ok_bind, hh, error_bind]

/-- POP of a pair pops two bytes, moves SP and writes the pair from them (R132, R133). -/
theorem popsTo_pop {u : (high low : Byte) → State}
    (hset : ∀ high low, (s.setSp (s.sp + 2)).setStackPair r (cat high low) = u high low) :
    PopsTo (Instr.pop r) s u := by
  rw [PopsTo, exec_pop, popPair]
  refine ⟨fun high low hl hh => ?_, fun e h => ?_, fun low e hl hh => ?_⟩
  · rw [State.pop16_of_reads hl hh, ← hset, ok_bind, outcome_ok]
  · rw [State.pop16_of_low_error h, error_bind, outcome_error]
  · rw [State.pop16_of_high_error hl hh, error_bind, outcome_error]

end Stack

end Sys2Proof.Machine
end

section
/-! SUPPORT. The statements of 40_transfer.md settled. -/

namespace Sys2Proof.Proofs

open Sys2Proof.Machine Sys2Proof.Vocabulary

/-- Settles O5: the instruction is the write of the register at HL. -/
theorem movStoresToMemory : Obligations.MovStoresToMemory := by
  intro s src
  exact ⟨by cases src <;> rfl, stores_of_write (exec_movMR s src)⟩

/-- Settles O10: each pair is its high register over its low one. -/
theorem pushStoresPair : Obligations.PushStoresPair := fun _ =>
  ⟨rfl, rfl, rfl, pushesTo_push rfl, pushesTo_push rfl, pushesTo_push rfl⟩

/-- Settles O11: PSW is A over the flag byte, and that byte has the number of R34. -/
theorem pushPswStoresAccumulatorAndFlags : Obligations.PushPswStoresAccumulatorAndFlags := by
  intro s
  rw [← Flags.byte_eq]
  exact ⟨rfl, pushesTo_push rfl⟩

/-- Settles O4: the read takes place before the register changes, so the address is the old HL. -/
theorem movLoadsFromMemory : Obligations.MovLoadsFromMemory := by
  intro s dst
  exact ⟨by cases dst <;> rfl, loads_of_read (s.setReg dst) (exec_movRM s dst)⟩

/-- Settles O6: a register takes the byte always, M as a write at HL does. -/
theorem mviWritesImmediate : Obligations.MviWritesImmediate := by
  intro s v
  refine ⟨fun r => ⟨by cases r <;> rfl, ?_⟩, rfl, stores_of_write (exec_mvi s .m v)⟩
  rw [exec_mvi, moveImm, State.wr8_reg, outcome_ok]

/-- Settles O7: the three instructions are one load, each from its own address. -/
theorem ldaAndLdaxLoadAccumulator : Obligations.LdaAndLdaxLoadAccumulator := by
  intro s adr
  refine ⟨by rw [← lo_eq_byte, ← hi_eq_byte]; rfl, rfl, rfl, ?_⟩
  refine List.forall_mem_cons.2 ⟨?lda, List.forall_mem_cons.2 ⟨?ldaxB, List.forall_mem_singleton.2 ?ldaxD⟩⟩
  case lda => exact loads_of_read (s.setReg .a) rfl
  case ldaxB => exact loads_of_read (s.setReg .a) (exec_ldax s .b)
  case ldaxD => exact loads_of_read (s.setReg .a) (exec_ldax s .d)

/-- Settles O8: the three instructions are one store, each at its own address. -/
theorem staAndStaxStoreAccumulator : Obligations.StaAndStaxStoreAccumulator := by
  intro s adr
  refine ⟨by rw [← lo_eq_byte, ← hi_eq_byte]; rfl, rfl, rfl, ?_⟩
  refine List.forall_mem_cons.2 ⟨?sta, List.forall_mem_cons.2 ⟨?staxB, List.forall_mem_singleton.2 ?staxD⟩⟩
  case sta => exact stores_of_write rfl
  case staxB => exact stores_of_write (exec_stax s .b)
  case staxD => exact stores_of_write (exec_stax s .d)

/-- Settles O9: B2 and B3 are the two halves of the word that the pair takes. -/
theorem lxiLoadsPair : Obligations.LxiLoadsPair := by
  intro s v
  simp only [← lo_eq_byte, ← hi_eq_byte]
  exact ⟨fun r => by cases r <;> rfl, exec_lxi s .b v, exec_lxi s .d v, exec_lxi s .h v, exec_lxi s .sp v⟩

/-- Settles O12: a pair written from two bytes has the high one in its high register. -/
theorem popLoadsPair : Obligations.PopLoadsPair := fun s =>
  ⟨rfl, rfl, rfl, popsTo_pop (State.setBc_cat (s.setSp (s.sp + 2))), popsTo_pop (State.setDe_cat (s.setSp (s.sp + 2))),
    popsTo_pop (State.setHl_cat (s.setSp (s.sp + 2)))⟩

/-- Settles O16; XCHG writes each of the two pairs from the bytes of the other. -/
theorem sphlPchlXchgMovePairs : Obligations.SphlPchlXchgMovePairs := by
  intro s
  have exchanged : (s.setHl s.de).setDe s.hl = { s with d := s.h, e := s.l, h := s.d, l := s.e } := by
    rw [State.de, State.hl, State.setHl_cat, State.setDe_cat]
  exact ⟨rfl, rfl, rfl, rfl, rfl, congrArg Host.Outcome.next exchanged⟩

end Sys2Proof.Proofs
end

section
/-! SUPPORT. The flags of a result in the spec's numbers, instructions that take an 8-bit operand, and a pair as a number:
the reasoning rules behind the statements of 41_arithmetic_logic.md. -/

open Sys2Proof.Vocabulary

namespace Sys2Proof.Machine

/-! ## The flags of a result (R32, R33, R35, R36) -/

/-- The parity flag says whether the number of ones is even (R35). -/
theorem parity8_eq (v : Byte) : parity8 v = decide (ones v % 2 = 0) := by
  have digit : (fun i => v.getLsbD i) = fun i => decide (v.toNat / 2 ^ i % 2 = 1) :=
    funext fun _ => Nat.testBit_eq_decide_div_mod_eq
  rw [parity8, digit, List.countP_eq_length_filter]
  rfl

theorem AluResult.flags_eq (x : AluResult) : x.flags = resultFlags x.r x.c x.ac := by
  rw [AluResult.flags, resultFlags, parity8_eq, BitVec.msb_eq_decide]
  rfl

/-! ## An operand in a register or M (R168) -/

/-- A meaning that takes an 8-bit operand goes on with its value, or is the fault of its read. -/
theorem takes_operand {o : Out} {s : State} {x : Operand8} {k : Byte → State → State} (ho : o = withOperand x k s) :
    (∀ v, s.rd8 x = .ok v → o = .next (k v s)) ∧ (∀ e, s.rd8 x = .error e → o = .fault e) := by
  subst ho
  refine ⟨fun v h => ?_, fun e h => ?_⟩
  · rw [withOperand, h, ok_bind, outcome_ok]
  · rw [withOperand, h, error_bind, outcome_error]

theorem oraByte_eq (v : Byte) (s : State) :
    oraByte v s = { s with a := s.a ||| v, f := resultFlags (s.a ||| v) false false } := by
  rw [oraByte, State.setResult, AluResult.flags_eq]

/-! ## A pair as a number (R10, R24) -/

theorem cat_toNat (high low : Byte) : (cat high low).toNat = 256 * high.toNat + low.toNat := by
  rw [cat, BitVec.toNat_append, ← Nat.shiftLeft_add_eq_or_of_lt low.isLt, Nat.shiftLeft_eq, Nat.mul_comm]

theorem hi_ofNat (n : Nat) : hi (BitVec.ofNat 16 n) = byte (n / 256) := by
  apply BitVec.eq_of_toNat_eq
  simp only [hi_eq_byte, byte, BitVec.toNat_ofNat]
  omega

theorem lo_ofNat (n : Nat) : lo (BitVec.ofNat 16 n) = byte n := by
  apply BitVec.eq_of_toNat_eq
  simp only [lo_eq_byte, byte, BitVec.toNat_ofNat]
  omega

/-- HL written with a number modulo 2^16 takes its two bytes. -/
theorem State.setHl_ofNat (s : State) (n : Nat) :
    s.setHl (BitVec.ofNat 16 n) = { s with h := byte (n / 256), l := byte n } := by
  rw [State.setHl, hi_ofNat, lo_ofNat]

end Sys2Proof.Machine
end

section
/-! SUPPORT. The statements of 41_arithmetic_logic.md settled. -/

namespace Sys2Proof.Proofs

open Sys2Proof.Machine Sys2Proof.Vocabulary

/-- Settles O27: HL as a number is 256 times H plus L, and HL takes the two bytes of the sum. -/
theorem dadAddsToHl : Obligations.DadAddsToHl := by
  intro s r
  refine ⟨by cases r <;> rfl, ?_⟩
  rw [exec_dad, addPair, State.hl, cat_toNat, State.setHl_ofNat, State.setFlags]

/-- Settles O21: both forms are one operation on A and the operand's value. -/
theorem orWritesResultAndFlags : Obligations.OrWritesResultAndFlags := by
  intro s x v
  obtain ⟨runs, faults⟩ := takes_operand (exec_alu s .ora x)
  rw [← oraByte_eq]
  refine ⟨?encoding, rfl, exec_aluImm s .ora v, runs v, faults⟩
  cases x with
  | reg r => cases r <;> rfl
  | m => rfl

end Sys2Proof.Proofs
end

section
/-! SUPPORT. What CALL and RET are in terms of the shared call and return: the reasoning rules behind the statements of
43_control_transfer.md. -/

open Sys2Proof.Vocabulary

namespace Sys2Proof.Machine

/-! ## CALL and RET without a condition (R202, R203) -/

@[simp] theorem State.setPc_self (s : State) : s.setPc s.pc = s := rfl

theorem exec_call (s : State) (adr : Word) : exec (.call adr) s = outcome (s.callTo adr) := rfl

theorem exec_ret (s : State) : exec .ret s = outcome s.returnToCaller := rfl

/-- A call from where pc stands pushes pc itself (R202). -/
theorem pushes_callTo_of_pc (s : State) (target : Word) :
    Pushes (outcome (s.callTo target)) s (byte (s.pc.toNat / 256)) (byte s.pc.toNat)
      { s with sp := s.sp - 2, pc := target } := by
  have pushed := pushes_callTo s s.pc target
  rwa [State.setPc_self] at pushed

end Sys2Proof.Machine
end

section
/-! SUPPORT. The statements of 43_control_transfer.md settled. -/

namespace Sys2Proof.Proofs

open Sys2Proof.Machine Sys2Proof.Vocabulary

/-- Settles O34: CALL is the shared call, made from where pc stands. -/
theorem callPushesPcAndJumps : Obligations.CallPushesPcAndJumps := by
  intro s adr
  refine ⟨by rw [← lo_eq_byte, ← hi_eq_byte]; rfl, ?_⟩
  rw [PushesTo, exec_call]
  exact pushes_callTo_of_pc s adr

/-- Settles O35: RET is the shared return. -/
theorem retPopsPc : Obligations.RetPopsPc := fun s =>
  ⟨rfl, popsTo_of_returnToCaller (exec_ret s)⟩

end Sys2Proof.Proofs
end

section
/-! SUPPORT. What a step is at each kind of recognition point, what interrupt entry pushes, and which operations leave
interrupts disabled: the reasoning rules behind the statements of 60_exceptions.md. -/

open Sys2Proof.Vocabulary

namespace Sys2Proof.Machine

/-! ## The recognition point (R253, R254, R258) -/

theorem State.accepts_iff {s : State} :
    s.accepts = true ↔ s.inte = true ∧ (s.params.eiDelay = false ∨ s.justEi = false ∨ s.halted = true) := by
  simp [State.accepts, or_assoc]

theorem State.accepts_eq_false_iff {s : State} :
    s.accepts = false ↔ s.inte = false ∨ (s.params.eiDelay = true ∧ s.justEi = true ∧ s.halted = false) := by
  cases hinte : s.inte <;> simp [State.accepts, hinte, and_assoc]

@[simp] theorem State.dropSample_accepts (s : State) : s.dropSample.accepts = s.accepts := rfl

theorem step_eq_resetEvent {s : State} (hreset : s.sample.resetLine = true) : step s = .next s.dropSample.resetEvent := by
  simp [step, cycle, hreset]

theorem step_eq_acceptRequest {s : State} {v : Byte} (hreset : s.sample.resetLine = false)
    (hintr : s.sample.intr = some v) (haccepts : s.accepts = true) : step s = acceptRequest v s.dropSample := by
  simp [step, cycle, hreset, hintr, haccepts]

theorem step_eq_continueRun {s : State} (hreset : s.sample.resetLine = false)
    (hquiet : s.sample.intr = none ∨ s.accepts = false) : step s = continueRun s.dropSample := by
  cases hintr : s.sample.intr with
  | none => simp [step, cycle, hreset, hintr]
  | some v =>
    have haccepts : s.accepts = false := hquiet.resolve_left (by simp [hintr])
    simp [step, cycle, hreset, hintr, haccepts]

/-! ## The supplied byte (R97, R255) -/

/-- A byte of quadrant 11 and column 7 is `11 nnn 111` with the number of its middle field. -/
theorem eq_byte_of_fields : ∀ v : Byte, quadrant v = 3 → field20 v = 7 →
    v = byte (0xC7 + 8 * (BitVec.ofNat 3 (field53 v)).toNat) := by decide

theorem restartNumber_rst : ∀ n : BitVec 3, restartNumber (byte (0xC7 + 8 * n.toNat)) = some n := by decide

theorem restartNumber_eq_some_iff {v : Byte} {n : BitVec 3} :
    restartNumber v = some n ↔ v = byte (0xC7 + 8 * n.toNat) := by
  constructor
  · intro h
    obtain ⟨⟨hquadrant, hcolumn⟩, hn⟩ := Option.ite_none_right_eq_some.1 h
    exact Option.some.inj hn ▸ eq_byte_of_fields v hquadrant hcolumn
  · rintro rfl
    exact restartNumber_rst n

theorem acceptRequest_rst (s : State) (n : BitVec 3) :
    acceptRequest (byte (0xC7 + 8 * n.toNat)) s = outcome (s.takeInterrupt n) := by
  rw [acceptRequest, restartNumber_rst]

theorem acceptRequest_of_not_rst (s : State) {v : Byte} (h : ∀ n : BitVec 3, v ≠ byte (0xC7 + 8 * n.toNat)) :
    acceptRequest v s = .refused (.suppliedNotRst v) := by
  have noNumber : restartNumber v = none :=
    Option.eq_none_iff_forall_ne_some.2 fun n hn => h n (restartNumber_eq_some_iff.1 hn)
  rw [acceptRequest, noNumber]

/-! ## Interrupt entry (R230, R256) -/

theorem restartVector_eq : ∀ n : BitVec 3, restartVector n = BitVec.ofNat 16 (8 * n.toNat) := by decide

/-- A push commutes with an update `k` of fields that it neither looks at nor writes. -/
theorem State.push16_update {s : State} (k : State → State) (v : Word) (hparams : (k s).params = s.params)
    (hmem : (k s).mem = s.mem) (hsp : (k s).sp = s.sp)
    (hset : ∀ m x, ((k s).setMem m).setSp x = k ((s.setMem m).setSp x)) :
    (k s).push16 v = s.push16 v >>= fun t => .ok (k t) := by
  simp only [State.push16, State.write, State.kind_congr hparams, hmem, hsp]
  cases s.kind (s.sp - 1) with
  | ram =>
    simp only [ok_bind, State.setMem_kind, State.kind_congr hparams]
    cases s.kind (s.sp - 2) with
    | ram => exact congrArg Except.ok (hset _ _)
    | rom => rfl
    | absent => rfl
  | rom => rfl
  | absent => rfl

/-- What interrupt entry does apart from the push, the sample of the recognition point included. -/
def State.enterArea (s : State) (n : BitVec 3) : State :=
  ((((s.dropSample.setHalted false).setPc (restartVector n)).setInte false).setJustEi false).addEvent (.interrupt n)

theorem State.enterArea_read (s : State) (n : BitVec 3) : (s.enterArea n).read = s.read := by
  simp [State.enterArea]

/-- Interrupt entry is the push of the unadvanced pc, and then the entry of area N. -/
theorem State.takeInterrupt_dropSample (s : State) (n : BitVec 3) :
    s.dropSample.takeInterrupt n = s.push16 s.pc >>= fun t => .ok (t.enterArea n) := by
  have pushed : (s.dropSample.setHalted false).push16 s.pc = s.push16 s.pc >>= fun t => .ok (t.dropSample.setHalted false) :=
    State.push16_update (fun t => t.dropSample.setHalted false) s.pc rfl rfl rfl fun _ _ => rfl
  rw [State.takeInterrupt, State.restart, State.setHalted_pc, State.dropSample_pc, pushed]
  cases s.push16 s.pc <;> rfl

/-- Interrupt entry pushes the two bytes of pc. -/
theorem pushes_takeInterrupt (s : State) (n : BitVec 3) :
    Pushes (outcome (s.dropSample.takeInterrupt n)) s (byte (s.pc.toNat / 256)) (byte s.pc.toNat)
      { s with
        sp := s.sp - 2
        pc := BitVec.ofNat 16 (8 * n.toNat)
        inte := false
        halted := false
        signals := s.signals.tail
        events := s.events ++ [.interrupt n]
        justEi := false } := by
  rw [State.takeInterrupt_dropSample, ← hi_eq_byte, ← lo_eq_byte, ← restartVector_eq]
  exact pushes_of_push16 s.pc (fun t => t.enterArea n) rfl (fun t => t.enterArea_read n) fun m => by
    simp [SameButMem, State.enterArea]

/-! ## Operations that leave `inte` as it is (R40) -/

section Frame

variable {s t : State} {v : Word}

theorem State.write_inte {x : Word} {b : Byte} (h : s.write x b = .ok t) : t.inte = s.inte := by
  obtain ⟨-, rfl⟩ := State.write_eq_ok.1 h; rfl

theorem State.wr8_inte {x : Operand8} {b : Byte} (h : s.wr8 x b = .ok t) : t.inte = s.inte := by
  cases x with
  | reg r => cases h; exact State.setReg_inte s r b
  | m => exact State.write_inte h

theorem State.push16_inte (h : s.push16 v = .ok t) : t.inte = s.inte := by
  obtain ⟨-, -, rfl⟩ := State.push16_eq_ok.1 h; rfl

theorem State.pop16_inte (h : s.pop16 = .ok (v, t)) : t.inte = s.inte := by
  obtain ⟨_, _, -, -, -, rfl⟩ := State.pop16_eq_ok.1 h; rfl

theorem State.fetch16_inte (h : s.fetch16 = .ok (v, t)) : t.inte = s.inte := by
  obtain ⟨_, _, -, -, -, rfl⟩ := State.fetch16_eq_ok.1 h; rfl

theorem State.callTo_inte (h : s.callTo v = .ok t) : t.inte = s.inte := by
  obtain ⟨_, hpush, rfl⟩ := State.callTo_eq_ok.1 h
  rw [State.setPc_inte, State.push16_inte hpush]

theorem State.restart_inte {n : BitVec 3} (h : s.restart n = .ok t) : t.inte = s.inte := by
  obtain ⟨_, hpush, rfl⟩ := State.restart_eq_ok.1 h
  rw [State.setPc_inte, State.push16_inte hpush]

theorem State.returnToCaller_inte (h : s.returnToCaller = .ok t) : t.inte = s.inte := by
  obtain ⟨_, _, hpop, rfl⟩ := State.returnToCaller_eq_ok.1 h
  rw [State.setPc_inte, State.pop16_inte hpop]

theorem State.setCounted_inte {x : Operand8} {r : AluResult} (h : s.setCounted x r = .ok t) : t.inte = s.inte := by
  obtain ⟨_, hwrite, hset⟩ := bind_eq_ok.1 h
  cases hset
  rw [State.setFlags_inte, State.wr8_inte hwrite]

theorem State.ioRead_inte (port : Byte) : (s.ioRead port).2.inte = s.inte := by
  obtain ⟨_, _, _, h⟩ := s.ioRead_frame port
  rw [h]

theorem aluByte_inte (op : AluOp) (b : Byte) : (aluByte op b s).inte = s.inte := by
  have logic : ∀ lop r, (s.setLogic lop b r).inte = s.inte := fun lop r => by
    obtain ⟨_, _, h⟩ := s.setLogic_frame lop b r
    rw [h]
  cases op with
  | add | adc | sub | sbb | ora => rfl
  | ana | xra => exact logic _ _
  | cmp =>
    obtain ⟨_, _, h, -, -⟩ := s.setCompare_frame (sub8 s.params s.a b false)
    rw [aluByte, cmpByte, h]

end Frame

/-! ## EI alone enables interrupts (R40, R253) -/

/-- Every next state that the outcome gives has interrupts disabled. -/
def LeavesDisabled (o : Out) : Prop := ∀ t, o = .next t → t.inte = false

theorem leavesDisabled_next {t : State} (h : t.inte = false) : LeavesDisabled (.next t) := by
  rintro _ ⟨⟩
  exact h

theorem leavesDisabled_outcome {x : Except Fault State} (h : ∀ t, x = .ok t → t.inte = false) :
    LeavesDisabled (outcome x) := fun t ht => h t (outcome_eq_next.1 ht)

/-- A chain leaves interrupts disabled when what follows a first part that ends well does. -/
theorem leavesDisabled_bind {α : Type} {x : Except Fault α} {k : α → Except Fault State}
    (h : ∀ a, x = .ok a → LeavesDisabled (outcome (k a))) : LeavesDisabled (outcome (x >>= k)) := by
  cases x with
  | ok a => exact h a rfl
  | error e => rintro _ ⟨⟩

section Disabled

variable {s : State} (hs : s.inte = false)
include hs

theorem leavesDisabled_callTo (target : Word) : LeavesDisabled (outcome (s.callTo target)) :=
  leavesDisabled_outcome fun _ h => (State.callTo_inte h).trans hs

theorem leavesDisabled_returnToCaller : LeavesDisabled (outcome s.returnToCaller) :=
  leavesDisabled_outcome fun _ h => (State.returnToCaller_inte h).trans hs

theorem leavesDisabled_write (x : Word) (v : Byte) : LeavesDisabled (outcome (s.write x v)) :=
  leavesDisabled_outcome fun _ h => (State.write_inte h).trans hs

theorem leavesDisabled_setCounted (x : Operand8) (r : AluResult) : LeavesDisabled (outcome (s.setCounted x r)) :=
  leavesDisabled_outcome fun _ h => (State.setCounted_inte h).trans hs

/-- A byte is read and goes into a state with `inte` unchanged. -/
theorem leavesDisabled_load {x : Except Fault Byte} {k : Byte → State} (hk : ∀ v, (k v).inte = s.inte) :
    LeavesDisabled (outcome (x >>= fun v => .ok (k v))) :=
  leavesDisabled_bind fun v _ => leavesDisabled_next ((hk v).trans hs)

theorem leavesDisabled_reservedByte (op : Byte) : LeavesDisabled (reservedByte op s) := by
  intro t h
  rcases reservedByte_eq_next h with ⟨-, rfl⟩ | ⟨-, _, _, hfetch, rfl⟩ | ⟨-, _, _, hfetch, hcall⟩ | ⟨-, hret⟩
  · exact hs
  · exact (State.fetch16_inte hfetch).trans hs
  · exact (State.callTo_inte hcall).trans ((State.fetch16_inte hfetch).trans hs)
  · exact (State.returnToCaller_inte hret).trans hs

/-- No instruction but EI enables interrupts. -/
theorem leavesDisabled_exec {i : Instr} (hi : i ≠ .ei) : LeavesDisabled (exec i s) := by
  cases i using Instr.byFamily with
  | h_movRR q r => rw [exec_movRR]; exact leavesDisabled_next (by simp [hs])
  | h_movRM r => rw [exec_movRM]; exact leavesDisabled_load hs (State.setReg_inte s r)
  | h_movMR r => rw [exec_movMR]; exact leavesDisabled_write hs _ _
  | h_mvi x v => rw [exec_mvi]; exact leavesDisabled_outcome fun _ h => (State.wr8_inte h).trans hs
  | h_alu op x => rw [exec_alu]; exact leavesDisabled_load hs (aluByte_inte op)
  | h_aluImm op v => rw [exec_aluImm]; exact leavesDisabled_next ((aluByte_inte op v).trans hs)
  | h_inr x =>
    rw [exec_inr]
    exact leavesDisabled_bind fun v _ => leavesDisabled_setCounted hs x (add8 v 1 false)
  | h_dcr x =>
    rw [exec_dcr]
    exact leavesDisabled_bind fun v _ => leavesDisabled_setCounted hs x (sub8 s.params v 1 false)
  | h_lxi r v => rw [exec_lxi]; exact leavesDisabled_next (by simp [hs])
  | h_dad r => rw [exec_dad]; exact leavesDisabled_next (by simp [hs])
  | h_inx r => rw [exec_inx]; exact leavesDisabled_next (by simp [hs])
  | h_dcx r => rw [exec_dcx]; exact leavesDisabled_next (by simp [hs])
  | h_push r => rw [exec_push]; exact leavesDisabled_outcome fun _ h => (State.push16_inte h).trans hs
  | h_pop r =>
    rw [exec_pop]
    exact leavesDisabled_bind fun a h => leavesDisabled_next (by simp [State.pop16_inte h, hs])
  | h_stax r => rw [exec_stax]; exact leavesDisabled_write hs _ _
  | h_ldax r => rw [exec_ldax]; exact leavesDisabled_load hs (State.setReg_inte s .a)
  | h_jumpIf k v => rw [exec_jumpIf]; exact leavesDisabled_next (by split <;> exact hs)
  | h_callIf k v =>
    rw [exec_callIf, callIf]
    split
    · exact leavesDisabled_callTo hs v
    · exact leavesDisabled_next hs
  | h_returnIf k =>
    rw [exec_returnIf, returnIf]
    split
    · exact leavesDisabled_returnToCaller hs
    · exact leavesDisabled_next hs
  | h_rst n =>
    rw [exec_rst]
    refine leavesDisabled_bind fun t h => leavesDisabled_next ?_
    split
    · rfl
    · exact (State.restart_inte h).trans hs
  | h_shld adr =>
    exact leavesDisabled_bind fun t h => leavesDisabled_write ((State.write_inte h).trans hs) _ _
  | h_lhld adr =>
    exact leavesDisabled_bind fun low _ => leavesDisabled_load hs fun high => State.setHl_inte s (cat high low)
  | h_xthl =>
    refine leavesDisabled_bind fun low _ => leavesDisabled_bind fun high _ => leavesDisabled_bind fun t ht =>
      leavesDisabled_bind fun u hu => leavesDisabled_next ?_
    exact (State.write_inte hu).trans ((State.write_inte ht).trans hs)
  | h_sta adr => exact leavesDisabled_write hs _ _
  | h_lda adr => exact leavesDisabled_load hs (State.setReg_inte s .a)
  | h_call adr => exact leavesDisabled_callTo hs adr
  | h_ret => exact leavesDisabled_returnToCaller hs
  | h_inPort port => exact leavesDisabled_next ((State.ioRead_inte port).trans hs)
  | h_di => exact leavesDisabled_next rfl
  | h_ei => exact absurd rfl hi
  | h_reserved i h =>
    obtain ⟨op, -, hexec⟩ := exec_reserved s i h
    rw [hexec]
    exact leavesDisabled_reservedByte hs op
  | h_nop | h_rlc | h_rrc | h_ral | h_rar | h_daa | h_cma | h_stc | h_cmc | h_hlt | h_jmp _ | h_outPort _ | h_pchl
  | h_xchg | h_sphl => exact leavesDisabled_next hs

end Disabled

/-! ## The byte that was fetched (R91, R92) -/

theorem encodeLength_statement (i : Instr) : Laws.EncodeLength.Statement i := by
  cases i <;> exact ⟨_, _, rfl, rfl, fun _ _ => rfl⟩

/-- The first byte alone selects the constructor, whatever bytes follow it. -/
theorem head_encode_decodeBytes (op b2 b3 : Byte) : (encode (decodeBytes op b2 b3)).head? = some op := by
  have first : ∀ op, (encode (decodeBytes op 0 0)).head? = some op := by decide
  obtain ⟨op', rest, henc, -, hhead⟩ := encodeLength_statement (decodeBytes op 0 0)
  have hop := first op
  rw [henc] at hop
  obtain rfl : op' = op := Option.some.inj hop
  exact hhead b2 b3

/-- The first byte of a fetched instruction is the byte at pc. -/
theorem State.read_pc_of_fetchInstr {s t : State} {i : Instr} (h : s.fetchInstr = .ok (i, t)) :
    ∃ op, s.read s.pc = .ok op ∧ (encode i).head? = some op := by
  obtain ⟨⟨op, s1⟩, h1, k1⟩ := bind_eq_ok.1 h
  obtain ⟨⟨b2, s2⟩, -, k2⟩ := bind_eq_ok.1 k1
  obtain ⟨⟨b3, s3⟩, -, k3⟩ := bind_eq_ok.1 k2
  obtain ⟨hread, -⟩ := State.fetch8_eq_ok.1 h1
  cases k3
  exact ⟨op, hread, head_encode_decodeBytes op b2 b3⟩

end Sys2Proof.Machine
end

section
/-! SUPPORT. The statements of 60_exceptions.md settled. -/

namespace Sys2Proof.Proofs

open Sys2Proof.Machine Sys2Proof.Vocabulary

/-- Settles O59, by the case split over what a step can do: reset and interrupt entry disable interrupts, the halt keeps
`inte`, and of the instructions EI alone enables. -/
theorem onlyEiEnablesInterrupts : Obligations.OnlyEiEnablesInterrupts := by
  intro s t hstep hoff hon
  have notOff : t.inte ≠ false := by simp [hon]
  rcases step_eq_next hstep with ⟨-, rfl⟩ | ⟨-, _, _, -, -, -, hentry⟩ | ⟨-, -, rfl⟩ | ⟨-, hrun, i, u, hfetch, hexec⟩
  · exact absurd (State.resetEvent_inte _) notOff
  · obtain ⟨_, -, rfl⟩ := State.takeInterrupt_eq_ok.1 hentry
    exact absurd rfl notOff
  · exact absurd hoff notOff
  · have fetchedOff : (u.setJustEi false).inte = false := by rw [State.fetchInstr_frame hfetch]; exact hoff
    have isEi : i = .ei := by
      by_contra hi
      exact notOff (leavesDisabled_exec fetchedOff hi t hexec)
    obtain ⟨op, hread, hhead⟩ := State.read_pc_of_fetchInstr hfetch
    subst isEi
    cases hhead
    exact ⟨hrun, hread⟩

/-- Settles O55: the accepted request is the entry, and the entry a push followed by updates of other fields. -/
theorem interruptEntryPushesPc : Obligations.InterruptEntryPushesPc := by
  intro s n hreset hintr hinte hdelay
  rw [step_eq_acceptRequest hreset hintr (State.accepts_iff.2 ⟨hinte, hdelay⟩), acceptRequest_rst]
  exact pushes_takeInterrupt s n

/-- Settles O58: only the eight RST bytes have a restart number. -/
theorem suppliedNotRstRefused : Obligations.SuppliedNotRstRefused := by
  intro s v hreset hintr hinte hdelay hv
  rw [step_eq_acceptRequest hreset hintr (State.accepts_iff.2 ⟨hinte, hdelay⟩), acceptRequest_of_not_rst _ hv]

/-- Settles O54: the step is the reset event, whatever else the sample holds. -/
theorem resetEventWins : Obligations.ResetEventWins := by
  intro s hreset
  rw [step_eq_resetEvent hreset]
  refine ⟨⟨_, rfl, rfl, rfl, rfl, ?mem, ?params, ?signals, ?inputs, ?events⟩, fun v hv => ?values⟩
  case mem => exact State.resetEvent_mem _
  case params => exact State.resetEvent_params _
  case signals => exact State.resetEvent_signals _
  case inputs => exact State.resetEvent_inputs _
  case events => exact State.resetEvent_events _
  case values => rw [State.resetEvent_some (s := s.dropSample) hv]; rfl

/-- Settles O56: where the request is not accepted both steps go on from one state, since taking the sample of either
leaves the same. -/
theorem requestIgnoredWhileDisabled : Obligations.RequestIgnoredWhileDisabled := by
  intro s hreset hoff
  have ignored := step_eq_continueRun hreset (.inr (State.accepts_eq_false_iff.2 hoff))
  have quiet := step_eq_continueRun (s := { s with signals := Signals.quiet :: s.signals.tail }) rfl (.inl rfl)
  exact ignored.trans quiet.symm

end Sys2Proof.Proofs
end

section
/-! SUPPORT. The decoder against the encoder: each instruction is read back from its own bytes, and the first byte says how
many operand bytes belong to it. -/

namespace Sys2Proof.Machine

/-! ## From an instruction to its bytes and back (R90, R98, R99) -/

/-- The three formats of R90: an instruction is one, two or three bytes, as many as the length of the first says, and the
decoder makes it of these bytes. -/
theorem encode_format (i : Instr) :
    (∃ op, encode i = [op] ∧ instrLength op = 1 ∧ i = decodeBytes op 0 0) ∨
    (∃ op b2, encode i = [op, b2] ∧ instrLength op = 2 ∧ i = decodeBytes op b2 0) ∨
    (∃ op b2 b3, encode i = [op, b2, b3] ∧ instrLength op = 3 ∧ i = decodeBytes op b2 b3) := by
  cases i with
  | lxiB v | lxiD v | lxiH v | lxiSp v | shld v | lhld v | sta v | lda v | jmp v | call v
  | jnz v | jz v | jnc v | jc v | jpo v | jpe v | jp v | jm v
  | cnz v | cz v | cnc v | cc v | cpo v | cpe v | cp v | cm v =>
    exact .inr (.inr ⟨_, _, _, rfl, rfl, congrArg _ (cat_hi_lo v).symm⟩)
  | mviB v | mviC v | mviD v | mviE v | mviH v | mviL v | mviM v | mviA v
  | adi v | aci v | sui v | sbi v | ani v | xri v | ori v | cpi v | outPort v | inPort v =>
    exact .inr (.inl ⟨_, _, rfl, rfl, rfl⟩)
  | _ => exact .inl ⟨_, rfl, rfl, rfl⟩

theorem decode_encode (i : Instr) (rest : List Byte) : decode (encode i ++ rest) = .ok (i, rest) := by
  rcases encode_format i with ⟨op, henc, hlen, hi⟩ | ⟨op, b2, henc, hlen, hi⟩ | ⟨op, b2, b3, henc, hlen, hi⟩
  · exact decode_eq_ok.2 (.inl ⟨op, by rw [henc]; rfl, hlen, hi⟩)
  · exact decode_eq_ok.2 (.inr (.inl ⟨op, b2, by rw [henc]; rfl, hlen, hi⟩))
  · exact decode_eq_ok.2 (.inr (.inr ⟨op, b2, b3, by rw [henc]; rfl, hlen, hi⟩))

/-! ## From bytes to the instruction and back (R91, R98) -/

/-- The first bytes with one operand byte: MVI, the immediate column, OUT and IN (R98). -/
def twoByteOpcodes : List Byte :=
  [0x06, 0x0E, 0x16, 0x1E, 0x26, 0x2E, 0x36, 0x3E, 0xC6, 0xCE, 0xD6, 0xDE, 0xE6, 0xEE, 0xF6, 0xFE, 0xD3, 0xDB]

/-- The first bytes with two operand bytes: LXI, the direct transfers, the jumps and the calls (R98). -/
def threeByteOpcodes : List Byte :=
  [0x01, 0x11, 0x21, 0x31, 0x22, 0x2A, 0x32, 0x3A, 0xC3, 0xCD, 0xC2, 0xCA, 0xD2, 0xDA, 0xE2, 0xEA, 0xF2, 0xFA,
    0xC4, 0xCC, 0xD4, 0xDC, 0xE4, 0xEC, 0xF4, 0xFC]

theorem mem_twoByteOpcodes : ∀ op : Byte, instrLength op = 2 → op ∈ twoByteOpcodes := by decide

theorem mem_threeByteOpcodes : ∀ op : Byte, instrLength op = 3 → op ∈ threeByteOpcodes := by decide

theorem encode_decodeBytes_one : ∀ op : Byte, instrLength op = 1 → encode (decodeBytes op 0 0) = [op] := by decide

theorem encode_decodeBytes_two {op : Byte} (h : instrLength op = 2) (b2 : Byte) :
    encode (decodeBytes op b2 0) = [op, b2] := by
  have listed := mem_twoByteOpcodes op h
  simp only [twoByteOpcodes, List.mem_cons, List.not_mem_nil, or_false] at listed
  rcases listed with rfl | rfl | rfl | rfl | rfl | rfl | rfl | rfl | rfl | rfl | rfl | rfl | rfl | rfl | rfl | rfl | rfl |
    rfl <;> rfl

theorem encode_decodeBytes_three {op : Byte} (h : instrLength op = 3) (b2 b3 : Byte) :
    encode (decodeBytes op b2 b3) = [op, b2, b3] := by
  have halves : ∀ op' : Byte, [op', lo (cat b3 b2), hi (cat b3 b2)] = [op', b2, b3] := by simp
  have listed := mem_threeByteOpcodes op h
  simp only [threeByteOpcodes, List.mem_cons, List.not_mem_nil, or_false] at listed
  rcases listed with rfl | rfl | rfl | rfl | rfl | rfl | rfl | rfl | rfl | rfl | rfl | rfl | rfl | rfl | rfl | rfl | rfl |
    rfl | rfl | rfl | rfl | rfl | rfl | rfl | rfl | rfl <;> exact halves _

end Sys2Proof.Machine
end

section
/-! SUPPORT. The remaining statements of 30_encoding.md settled. -/

namespace Sys2Proof.Proofs

open Sys2Proof.Machine

/-- Settles O44, format by format. -/
theorem decodeOfEncode : Obligations.DecodeOfEncode := decode_encode

/-- Settles O45: what decodes is in one of the three formats, and the bytes of each format are encoded again as they were. -/
theorem encodeOfDecode : Obligations.EncodeOfDecode := by
  intro bytes rest i h
  rcases decode_eq_ok.1 h with ⟨op, rfl, hlen, rfl⟩ | ⟨op, b2, rfl, hlen, rfl⟩ | ⟨op, b2, b3, rfl, hlen, rfl⟩
  · rw [encode_decodeBytes_one op hlen]; rfl
  · rw [encode_decodeBytes_two hlen]; rfl
  · rw [encode_decodeBytes_three hlen]; rfl

/-- Settles O46: the seven words are closed terms, which the decoder evaluates. -/
theorem decodesWrittenOutWords : Obligations.DecodesWrittenOutWords := ⟨rfl, rfl, rfl, rfl, rfl, rfl, rfl⟩

end Sys2Proof.Proofs
end

section
/-! SUPPORT. What an instruction and a step can do to memory, the parameters and the flags: stores in RAM, and nothing to the
flags unless the instruction is a writer of R39. -/

open Sys2Proof.Vocabulary

namespace Sys2Proof.Machine

/-! ## Stores in RAM (R67, R70) -/

/-- The memory comes from that of `s` by storing bytes in RAM cells, one after the other. -/
inductive StoresTo (s : State) : Memory → Prop
  | none : StoresTo s s.mem
  | store {m : Memory} {x : Word} (v : Byte) (before : StoresTo s m) (hram : s.kind x = .ram) :
      StoresTo s (m.write x.toNat v)

theorem StoresTo.wf {s : State} {m : Memory} (h : StoresTo s m) (hs : s.mem.wf = true) : m.wf = true := by
  induction h with
  | none => exact hs
  | store v _ _ ih => exact Memory.wf_write _ _ v ih

theorem StoresTo.read_of_not_ram {s : State} {m : Memory} {y : Word} (h : StoresTo s m) (hy : s.kind y ≠ .ram) :
    m.read y.toNat = s.mem.read y.toNat := by
  induction h with
  | none => rfl
  | store v _ hram ih =>
    have apart : y.toNat ≠ (_ : Word).toNat := fun hyx => hy (BitVec.eq_of_toNat_eq hyx ▸ hram)
    exact (Memory.read_write_other _ v apart).trans ih

theorem StoresTo.trans {s t : State} {m : Memory} (hparams : t.params = s.params) (hst : StoresTo s t.mem)
    (h : StoresTo t m) : StoresTo s m := by
  induction h with
  | none => exact hst
  | store v _ hram ih => exact .store v ih (State.kind_congr hparams ▸ hram)

/-! ## The effect of an operation -/

/-- From `s` to `t` the parameters stay, memory takes stores in RAM cells alone, and the flags change only if `writer`. -/
structure Effect (writer : Prop) (s t : State) : Prop where
  params : t.params = s.params
  stores : StoresTo s t.mem
  flags : ¬writer → t.f = s.f

/-- An update of other fields, which may write the flags if `writer`. -/
theorem Effect.of_frame {writer : Prop} {s t : State} (hparams : t.params = s.params) (hmem : t.mem = s.mem)
    (hflags : ¬writer → t.f = s.f) : Effect writer s t :=
  ⟨hparams, hmem ▸ StoresTo.none, hflags⟩

theorem Effect.refl (writer : Prop) (s : State) : Effect writer s s := .of_frame rfl rfl fun _ => rfl

theorem Effect.trans {writer : Prop} {s t u : State} (h : Effect writer s t) (h' : Effect writer t u) :
    Effect writer s u :=
  ⟨h'.params.trans h.params, h.stores.trans h.params h'.stores, fun hw => (h'.flags hw).trans (h.flags hw)⟩

section Operations

variable {writer : Prop} {s t : State} {v : Word}

theorem State.write_effect {x : Word} {b : Byte} (h : s.write x b = .ok t) : Effect writer s t := by
  obtain ⟨hram, rfl⟩ := State.write_eq_ok.1 h
  exact ⟨rfl, .store b .none hram, fun _ => rfl⟩

theorem State.wr8_effect {x : Operand8} {b : Byte} (h : s.wr8 x b = .ok t) : Effect writer s t := by
  cases x with
  | reg r => cases h; exact .of_frame (by simp) (by simp) fun _ => by simp
  | m => exact State.write_effect h

theorem State.push16_effect (h : s.push16 v = .ok t) : Effect writer s t := by
  obtain ⟨hhigh, hlow, rfl⟩ := State.push16_eq_ok.1 h
  exact ⟨rfl, .store _ (.store _ .none hhigh) hlow, fun _ => rfl⟩

theorem State.pop16_effect (h : s.pop16 = .ok (v, t)) : Effect writer s t := by
  obtain ⟨_, _, -, -, -, rfl⟩ := State.pop16_eq_ok.1 h
  exact .of_frame rfl rfl fun _ => rfl

theorem State.fetch16_effect (h : s.fetch16 = .ok (v, t)) : Effect writer s t := by
  obtain ⟨_, _, -, -, -, rfl⟩ := State.fetch16_eq_ok.1 h
  exact .of_frame rfl rfl fun _ => rfl

theorem State.setPc_effect : Effect writer s (s.setPc v) := .of_frame rfl rfl fun _ => rfl

theorem State.callTo_effect (h : s.callTo v = .ok t) : Effect writer s t := by
  obtain ⟨_, hpush, rfl⟩ := State.callTo_eq_ok.1 h
  exact (State.push16_effect hpush).trans State.setPc_effect

theorem State.restart_effect {n : BitVec 3} (h : s.restart n = .ok t) : Effect writer s t := by
  obtain ⟨_, hpush, rfl⟩ := State.restart_eq_ok.1 h
  exact (State.push16_effect hpush).trans State.setPc_effect

theorem State.returnToCaller_effect (h : s.returnToCaller = .ok t) : Effect writer s t := by
  obtain ⟨_, _, hpop, rfl⟩ := State.returnToCaller_eq_ok.1 h
  exact (State.pop16_effect hpop).trans State.setPc_effect

theorem State.setCounted_effect {x : Operand8} {r : AluResult} (hw : writer) (h : s.setCounted x r = .ok t) :
    Effect writer s t := by
  obtain ⟨_, hwrite, hset⟩ := bind_eq_ok.1 h
  cases hset
  exact (State.wr8_effect hwrite).trans (.of_frame rfl rfl fun hnot => absurd hw hnot)

theorem aluByte_effect (hw : writer) (op : AluOp) (b : Byte) : Effect writer s (aluByte op b s) := by
  have noClaim : ∀ {u : State}, ¬writer → u.f = s.f := fun hnot => absurd hw hnot
  have logic : ∀ lop r, Effect writer s (s.setLogic lop b r) := fun lop r => by
    obtain ⟨_, _, h⟩ := s.setLogic_frame lop b r
    exact .of_frame (by rw [h]) (by rw [h]) noClaim
  cases op with
  | add | adc | sub | sbb | ora => exact .of_frame rfl rfl noClaim
  | ana => exact logic .and _
  | xra => exact logic .xor _
  | cmp =>
    obtain ⟨_, _, h, -, -⟩ := s.setCompare_frame (sub8 s.params s.a b false)
    rw [aluByte, cmpByte, h]
    exact .of_frame rfl rfl noClaim

theorem State.ioRead_effect (port : Byte) : Effect writer s (s.ioRead port).2 := by
  obtain ⟨_, _, _, h⟩ := s.ioRead_frame port
  rw [h]
  exact .of_frame rfl rfl fun _ => rfl

end Operations

/-! ## The effect of an outcome -/

/-- Every next state that the outcome gives comes from `s` by the effect. -/
def HasEffect (writer : Prop) (s : State) (o : Out) : Prop := ∀ t, o = .next t → Effect writer s t

section Outcomes

variable {writer : Prop} {s : State}

theorem hasEffect_next {t : State} (h : Effect writer s t) : HasEffect writer s (.next t) := by
  rintro _ ⟨⟩
  exact h

/-- An update of other fields than the parameters, memory and the flags. -/
theorem hasEffect_update {t : State} (hparams : t.params = s.params) (hmem : t.mem = s.mem) (hf : t.f = s.f) :
    HasEffect writer s (.next t) := hasEffect_next (.of_frame hparams hmem fun _ => hf)

/-- An update of other fields than the parameters and memory, by a writer of the flags. -/
theorem hasEffect_flags {t : State} (hw : writer) (hparams : t.params = s.params) (hmem : t.mem = s.mem) :
    HasEffect writer s (.next t) := hasEffect_next (.of_frame hparams hmem fun hnot => absurd hw hnot)

theorem hasEffect_outcome {x : Except Fault State} (h : ∀ t, x = .ok t → Effect writer s t) :
    HasEffect writer s (outcome x) := fun t ht => h t (outcome_eq_next.1 ht)

/-- A chain has the effect when what follows a first part that ends well has it. -/
theorem hasEffect_bind {α : Type} {x : Except Fault α} {k : α → Except Fault State}
    (h : ∀ a, x = .ok a → HasEffect writer s (outcome (k a))) : HasEffect writer s (outcome (x >>= k)) := by
  cases x with
  | ok a => exact h a rfl
  | error e => rintro _ ⟨⟩

theorem hasEffect_write (x : Word) (b : Byte) : HasEffect writer s (outcome (s.write x b)) :=
  hasEffect_outcome fun _ h => State.write_effect h

/-- A byte is read and goes into a register. -/
theorem hasEffect_load (x : Except Fault Byte) (r : Reg) :
    HasEffect writer s (outcome (x >>= fun v => .ok (s.setReg r v))) :=
  hasEffect_bind fun v _ => hasEffect_update (s.setReg_params r v) (s.setReg_mem r v) (s.setReg_f r v)

theorem hasEffect_callTo (target : Word) : HasEffect writer s (outcome (s.callTo target)) :=
  hasEffect_outcome fun _ h => State.callTo_effect h

theorem hasEffect_returnToCaller : HasEffect writer s (outcome s.returnToCaller) :=
  hasEffect_outcome fun _ h => State.returnToCaller_effect h

theorem hasEffect_reservedByte (op : Byte) : HasEffect writer s (reservedByte op s) := by
  intro t h
  rcases reservedByte_eq_next h with ⟨-, rfl⟩ | ⟨-, _, _, hfetch, rfl⟩ | ⟨-, _, _, hfetch, hcall⟩ | ⟨-, hret⟩
  · exact .refl _ _
  · exact (State.fetch16_effect hfetch).trans State.setPc_effect
  · exact (State.fetch16_effect hfetch).trans (State.callTo_effect hcall)
  · exact State.returnToCaller_effect hret

end Outcomes

/-! ## The first bytes of the writers (R39) -/

/-- The number of an operation in the encoding (R99). -/
def aluCode : AluOp → Nat
  | .add => 0 | .adc => 1 | .sub => 2 | .sbb => 3 | .ana => 4 | .xra => 5 | .ora => 6 | .cmp => 7

theorem encode_alu (op : AluOp) (x : Operand8) :
    encode (Instr.alu op x) = [byte (0x80 + 8 * aluCode op + operandCode x)] := by
  rcases x with r | _
  · cases op <;> cases r <;> rfl
  · cases op <;> rfl

theorem encode_aluImm (op : AluOp) (v : Byte) : encode (Instr.aluImm op v) = [byte (0xC6 + 8 * aluCode op), v] := by
  cases op <;> rfl

theorem encode_inr (x : Operand8) : encode (Instr.inr x) = [byte (0x04 + 8 * operandCode x)] := by
  rcases x with r | _
  · cases r <;> rfl
  · rfl

theorem encode_dcr (x : Operand8) : encode (Instr.dcr x) = [byte (0x05 + 8 * operandCode x)] := by
  rcases x with r | _
  · cases r <;> rfl
  · rfl

theorem encode_dad (r : Pair) : encode (Instr.dad r) = [byte (0x09 + 16 * pairCode r)] := by
  cases r <;> rfl

theorem aluCode_lt (op : AluOp) : aluCode op < 8 := by cases op <;> decide

theorem operandCode_lt (x : Operand8) : operandCode x < 8 := by
  rcases x with r | _
  · cases r <;> decide
  · decide

theorem pairCode_lt (r : Pair) : pairCode r < 4 := by cases r <;> decide

/-- The instruction's first byte is that of a flag writer. -/
def WritesFlags (i : Instr) : Prop := ∃ op rest, encode i = op :: rest ∧ FlagWriter op.toNat

theorem writesFlags_of_encode {i : Instr} {n : Nat} {rest : List Byte} (henc : encode i = byte n :: rest) (hn : n < 256)
    (hwriter : FlagWriter n) : WritesFlags i :=
  ⟨_, _, henc, by rwa [byte, BitVec.toNat_ofNat, Nat.mod_eq_of_lt hn]⟩

theorem writesFlags_alu (op : AluOp) (x : Operand8) : WritesFlags (Instr.alu op x) := by
  have hop := aluCode_lt op
  have hx := operandCode_lt x
  exact writesFlags_of_encode (encode_alu op x) (by omega) (.inl (by omega))

theorem writesFlags_aluImm (op : AluOp) (v : Byte) : WritesFlags (Instr.aluImm op v) := by
  have hop := aluCode_lt op
  exact writesFlags_of_encode (encode_aluImm op v) (by omega) (.inr (.inl (by omega)))

theorem writesFlags_inr (x : Operand8) : WritesFlags (Instr.inr x) := by
  have hx := operandCode_lt x
  exact writesFlags_of_encode (encode_inr x) (by omega) (.inr (.inr (.inl (by omega))))

theorem writesFlags_dcr (x : Operand8) : WritesFlags (Instr.dcr x) := by
  have hx := operandCode_lt x
  exact writesFlags_of_encode (encode_dcr x) (by omega) (.inr (.inr (.inl (by omega))))

theorem writesFlags_dad (r : Pair) : WritesFlags (Instr.dad r) := by
  have hr := pairCode_lt r
  exact writesFlags_of_encode (encode_dad r) (by omega) (.inr (.inr (.inr (.inl (by omega)))))

/-- The rotates, DAA, STC and CMC are the column 7 of quadrant 00 without CMA. -/
theorem writesFlags_of_column {i : Instr} {n : Nat} (henc : encode i = [byte n]) (hn : n / 64 = 0)
    (hcolumn : n % 8 = 7) (hcma : n ≠ 0x2F) : WritesFlags i :=
  writesFlags_of_encode henc (by omega) (.inr (.inr (.inr (.inr (.inl ⟨hn, hcolumn, hcma⟩)))))

theorem writesFlags_popPsw : WritesFlags .popPsw := ⟨_, _, rfl, .inr (.inr (.inr (.inr (.inr rfl))))⟩

/-! ## The effect of an instruction and of a step -/

/-- POP writes the flags where it is POP PSW. -/
theorem hasEffect_popPair (s : State) (r : StackPair) : HasEffect (WritesFlags (Instr.pop r)) s (popPair r s) := by
  refine hasEffect_bind fun ⟨v, t⟩ h => hasEffect_next ((State.pop16_effect h).trans ?_)
  cases r with
  | b | d | h => exact .of_frame rfl rfl fun _ => rfl
  | psw => exact .of_frame rfl rfl fun hnot => absurd writesFlags_popPsw hnot

theorem exec_hasEffect (i : Instr) (s : State) : HasEffect (WritesFlags i) s (exec i s) := by
  cases i using Instr.byFamily with
  | h_movRR q r => rw [exec_movRR]; exact hasEffect_update (by simp) (by simp) (by simp)
  | h_movRM r => rw [exec_movRM]; exact hasEffect_load _ r
  | h_movMR r => rw [exec_movMR]; exact hasEffect_write _ _
  | h_mvi x v => rw [exec_mvi]; exact hasEffect_outcome fun _ h => State.wr8_effect h
  | h_alu op x =>
    rw [exec_alu]
    exact hasEffect_bind fun v _ => hasEffect_next (aluByte_effect (writesFlags_alu op x) op v)
  | h_aluImm op v => rw [exec_aluImm]; exact hasEffect_next (aluByte_effect (writesFlags_aluImm op v) op v)
  | h_inr x =>
    rw [exec_inr]
    exact hasEffect_bind fun v _ => hasEffect_outcome fun _ => State.setCounted_effect (writesFlags_inr x)
  | h_dcr x =>
    rw [exec_dcr]
    exact hasEffect_bind fun v _ => hasEffect_outcome fun _ => State.setCounted_effect (writesFlags_dcr x)
  | h_lxi r v => rw [exec_lxi]; exact hasEffect_update (by simp) (by simp) (by simp)
  | h_dad r => rw [exec_dad]; exact hasEffect_flags (writesFlags_dad r) rfl rfl
  | h_inx r => rw [exec_inx]; exact hasEffect_update (by simp) (by simp) (by simp)
  | h_dcx r => rw [exec_dcx]; exact hasEffect_update (by simp) (by simp) (by simp)
  | h_push r => rw [exec_push]; exact hasEffect_outcome fun _ h => State.push16_effect h
  | h_pop r => rw [exec_pop]; exact hasEffect_popPair s r
  | h_stax r => rw [exec_stax]; exact hasEffect_write _ _
  | h_ldax r => rw [exec_ldax]; exact hasEffect_load _ .a
  | h_jumpIf k v =>
    rw [exec_jumpIf, jumpIf]
    refine hasEffect_next ?_
    split
    · exact State.setPc_effect
    · exact .refl _ s
  | h_callIf k v =>
    rw [exec_callIf, callIf]
    split
    · exact hasEffect_callTo v
    · exact hasEffect_next (.refl _ s)
  | h_returnIf k =>
    rw [exec_returnIf, returnIf]
    split
    · exact hasEffect_returnToCaller
    · exact hasEffect_next (.refl _ s)
  | h_rst n =>
    rw [exec_rst]
    refine hasEffect_bind fun t h => hasEffect_next ((State.restart_effect h).trans ?_)
    split
    · exact .of_frame rfl rfl fun _ => rfl
    · exact .refl _ t
  | h_shld adr =>
    exact hasEffect_bind fun t h => hasEffect_outcome fun _ h' => (State.write_effect h).trans (State.write_effect h')
  | h_lhld adr => exact hasEffect_bind fun low _ => hasEffect_bind fun high _ => hasEffect_update rfl rfl rfl
  | h_xthl =>
    refine hasEffect_bind fun low _ => hasEffect_bind fun high _ => hasEffect_bind fun t ht =>
      hasEffect_bind fun u hu => hasEffect_next ?_
    exact ((State.write_effect ht).trans (State.write_effect hu)).trans (.of_frame rfl rfl fun _ => rfl)
  | h_sta adr => exact hasEffect_write _ _
  | h_lda adr => exact hasEffect_load _ .a
  | h_call adr => exact hasEffect_callTo adr
  | h_ret => exact hasEffect_returnToCaller
  | h_inPort port => exact hasEffect_next ((State.ioRead_effect port).trans (.of_frame rfl rfl fun _ => rfl))
  | h_reserved i h =>
    obtain ⟨op, -, hexec⟩ := exec_reserved s i h
    rw [hexec]
    exact hasEffect_reservedByte op
  | h_rlc | h_rrc | h_ral | h_rar | h_daa | h_stc | h_cmc =>
    exact hasEffect_flags (writesFlags_of_column rfl rfl rfl (by decide)) rfl rfl
  | h_nop | h_cma | h_hlt | h_jmp _ | h_outPort _ | h_pchl | h_xchg | h_di | h_sphl | h_ei =>
    exact hasEffect_update rfl rfl rfl

/-- A step of any kind stores in RAM alone and keeps the parameters; of the flags nothing is said here. -/
theorem step_effect {s t : State} (h : step s = .next t) : Effect True s t := by
  have sampled : Effect True s s.dropSample := .of_frame rfl rfl fun _ => rfl
  rcases step_eq_next h with ⟨-, rfl⟩ | ⟨-, _, _, -, -, -, hentry⟩ | ⟨-, -, rfl⟩ | ⟨-, -, i, u, hfetch, hexec⟩
  · exact .of_frame (State.resetEvent_params _) (State.resetEvent_mem _) (absurd trivial)
  · obtain ⟨u, hpush, rfl⟩ := State.takeInterrupt_eq_ok.1 hentry
    have started : Effect True s (s.dropSample.setHalted false) := .of_frame rfl rfl fun _ => rfl
    exact (started.trans (State.push16_effect hpush)).trans (.of_frame rfl rfl fun _ => rfl)
  · exact sampled
  · have fetched : Effect True s (u.setJustEi false) := by
      rw [State.fetchInstr_frame hfetch]
      exact .of_frame rfl rfl fun _ => rfl
    have executed := exec_hasEffect i _ t hexec
    exact fetched.trans ⟨executed.params, executed.stores, absurd trivial⟩

/-! ## While halted (R245) -/

theorem continueRun_of_halted {s : State} (h : s.halted = true) : continueRun s = .next s := by
  rw [continueRun, if_pos h]

end Sys2Proof.Machine
end

section
/-! SUPPORT. The statements about memory, flags and the halt over whole steps settled (10_state.md, 20_memory.md,
70_reset_and_hazards.md). -/

namespace Sys2Proof.Proofs

open Sys2Proof.Machine Sys2Proof.Vocabulary

/-- Settles O49: a step only stores, and a store keeps the form. -/
theorem stepKeepsMemoryCanonical : Obligations.StepKeepsMemoryCanonical := fun _ _ hinv hstep =>
  (step_effect hstep).stores.wf hinv

/-- Settles O51: a step only stores in RAM, so every other cell lists what it listed. -/
theorem stepChangesOnlyRam : Obligations.StepChangesOnlyRam := by
  intro s t hstep
  obtain ⟨hparams, hstores, -⟩ := step_effect hstep
  refine ⟨hparams, fun x hx => ?_⟩
  rw [State.read, State.read, State.kind_congr hparams, hstores.read_of_not_ram hx]

/-- Settles O52: an instruction changes the flags only if its first byte is that of a writer. -/
theorem otherInstructionsKeepFlags : Obligations.OtherInstructionsKeepFlags := by
  intro i s t op rest henc hnot hexec
  refine (exec_hasEffect i s t hexec).flags ?_
  rintro ⟨op', rest', henc', hwriter⟩
  obtain ⟨rfl, -⟩ := List.cons.inj (henc'.symm.trans henc)
  exact hnot hwriter

/-- Settles O60: of the four things a step can do, the halt going on keeps the halt and an instruction does not start in
it, so the reset event and interrupt entry are left. -/
theorem haltEndsOnlyByResetOrInterrupt : Obligations.HaltEndsOnlyByResetOrInterrupt := by
  intro s t hstep hhalt hrun
  rcases step_eq_next hstep with ⟨hreset, -⟩ | ⟨-, v, _, hintr, haccepts, -⟩ | ⟨-, -, rfl⟩ | ⟨-, hnot, -⟩
  · exact .inl hreset
  · exact .inr ⟨(State.accepts_iff.1 haccepts).1, v, hintr⟩
  · exact absurd (hhalt.symm.trans hrun) (by decide)
  · exact absurd (hhalt.symm.trans hnot) (by decide)

/-- Settles O57: without an acceptable request the step goes on, and a halted one with the sample taken. -/
theorem haltKeepsState : Obligations.HaltKeepsState := by
  intro s hhalt hreset hintr
  have refused : s.inte = false → s.accepts = false := fun h => State.accepts_eq_false_iff.2 (.inl h)
  rw [step_eq_continueRun hreset (hintr.imp_right refused), continueRun_of_halted (s := s.dropSample) hhalt]
  rfl

/-- Settles O50: no cell is listed after reset. -/
theorem resetMemoryCanonical : Obligations.ResetMemoryCanonical := rfl

/-- Settles O53. -/
theorem resetStateClearsControl : Obligations.ResetStateClearsControl := ⟨rfl, rfl, rfl⟩

end Sys2Proof.Proofs
end

section
/-! SUPPORT. Reads and writes with their faults, and two bytes loaded or stored one after the other: the reasoning rules
behind the statements of 20_memory.md and the two-byte transfers of 40_transfer.md. -/

open Sys2Proof.Vocabulary

namespace Sys2Proof.Machine

section Access

variable {s : State} {x : Word}

/-! ## The faults of one access (R66, R67, R251) -/

theorem State.write_of_rom (h : s.kind x = .rom) (v : Byte) : s.write x v = .error (.writeToNonRam x) := by
  rw [State.write, h]

theorem State.write_of_absent (h : s.kind x = .absent) (v : Byte) : s.write x v = .error (.absentMemory x) := by
  rw [State.write, h]

theorem State.read_of_absent (h : s.kind x = .absent) : s.read x = .error (.absentMemory x) := by
  rw [State.read, h]

theorem State.read_of_unlisted (h : s.kind x ≠ .absent) (hmem : s.mem.read x.toNat = none) :
    s.read x = .error (.unwrittenRead x) := by
  rw [State.read, hmem]
  cases hkind : s.kind x with
  | ram | rom => rfl
  | absent => exact absurd hkind h

/-! ## Two bytes stored (R79) -/

/-- Two bytes stored in different RAM cells, and what every address reads afterwards. -/
theorem State.stored2_of_writes {x' : Word} (hx : s.kind x = .ram) (hx' : s.kind x' = .ram) (apart : x ≠ x') (v v' : Byte) :
    Stored2 s (s.setMem ((s.mem.write x.toNat v).write x'.toNat v')) x v x' v' := by
  intro y
  have second := State.read_setMem_write (s := s.setMem (s.mem.write x.toNat v)) hx' y v'
  rw [State.read_setMem_write hx y v] at second
  refine second.trans ?_
  by_cases hy : y = x
  · simp only [if_pos hy, if_neg (hy ▸ apart : y ≠ x')]
  · simp only [if_neg hy]

theorem stored2_swap {s t : State} {x x' : Word} {v v' : Byte} (apart : x ≠ x') (h : Stored2 s t x v x' v') :
    Stored2 s t x' v' x v := by
  intro y
  refine (h y).trans ?_
  by_cases hy : y = x
  · simp only [if_pos hy, if_neg (hy ▸ apart : y ≠ x')]
  · simp only [if_neg hy]

/-- An outcome that is two writes and then an update `k` of other fields than memory stores the two bytes, or is the fault of
the first write that fails. -/
theorem stores2_of_writes {o : Out} {u : State} {x' : Word} {v v' : Byte} (k : State → State)
    (ho : o = outcome (s.write x v >>= fun w => w.write x' v' >>= fun t => .ok (k t))) (apart : x ≠ x')
    (hread : ∀ t, (k t).read = t.read) (hframe : ∀ m, SameButMem (k (s.setMem m)) u) :
    (s.Writable x → s.Writable x' → ∃ t, o = .next t ∧ SameButMem t u ∧ Stored2 s t x v x' v') ∧
    (∀ e, s.write x v = .error e → o = .fault e) ∧
    (∀ w e, s.write x v = .ok w → w.write x' v' = .error e → o = .fault e) := by
  subst ho
  refine ⟨fun hx hx' => ?_, fun e h => ?_, fun w e h h' => ?_⟩
  · have second : (s.setMem (s.mem.write x.toNat v)).kind x' = .ram := hx'
    refine ⟨k (s.setMem ((s.mem.write x.toNat v).write x'.toNat v')), ?_, hframe _, fun y => ?_⟩
    · rw [State.write_ram hx, ok_bind, State.write_ram second, ok_bind, outcome_ok]
      rfl
    · rw [hread]
      exact State.stored2_of_writes hx hx' apart v v' y
  · rw [h, error_bind, outcome_error]
  · rw [h, ok_bind, h', error_bind, outcome_error]

end Access

theorem ne_add_one (x : Word) : x ≠ x + 1 := by bv_omega

/-- A chain that ends by answering the last state is the chain without that end. -/
theorem bind_ok_self (x : Except Fault State) : (x >>= fun t => .ok (id t)) = x := by
  cases x <;> rfl

/-- XTHL once both bytes of the stack are read (R139). -/
theorem exec_xthl_of_reads {s : State} {low high : Byte} (hl : s.read s.sp = .ok low) (hh : s.read (s.sp + 1) = .ok high) :
    exec .xthl s = outcome (s.write (s.sp + 1) s.h >>= fun w => w.write s.sp s.l >>= fun t =>
      .ok (t.setHl (cat high low))) := by
  change execXthl s = _
  rw [execXthl, hl, ok_bind, hh, ok_bind]

end Sys2Proof.Machine
end

section
/-! SUPPORT. The statements about registers and memory (10_state.md, 20_memory.md) and the remaining ones of 40_transfer.md
settled. -/

namespace Sys2Proof.Proofs

open Sys2Proof.Machine Sys2Proof.Vocabulary

/-- Settles O2, kind of cell by kind of cell. -/
theorem memoryReadsAndWrites : Obligations.MemoryReadsAndWrites := by
  intro s x v
  refine ⟨fun hram => ?ram, fun hrom => State.write_of_rom hrom v, fun habsent => ?absent, State.read_of_unlisted,
    fun w hkind hlisted => State.read_eq_ok.2 ⟨hkind, hlisted⟩⟩
  case ram => exact ⟨_, State.write_ram hram v, rfl, fun y => State.read_setMem_write hram y v⟩
  case absent => exact ⟨State.write_of_absent habsent v, State.read_of_absent habsent⟩

/-- Settles O1. -/
theorem registersPairsAndOperandForms : Obligations.RegistersPairsAndOperandForms := by
  intro s
  refine ⟨⟨rfl, rfl, rfl, rfl, rfl, rfl, rfl⟩, fun r v q => s.reg_setReg r q v, fun r v => ?frame, ?pairs,
    ⟨rfl, rfl, rfl⟩, s.rd8_reg, s.rd8_m⟩
  case frame => cases r <;> rfl
  case pairs => exact ⟨cat_toNat s.b s.c, cat_toNat s.d s.e, cat_toNat s.h s.l, rfl⟩

/-- Settles O3. -/
theorem movCopiesRegister : Obligations.MovCopiesRegister := fun s dst src =>
  ⟨by cases dst <;> cases src <;> rfl, exec_movRR s dst src⟩

/-- Settles O13: PSW is A over the flag byte, of which five bits are flags. -/
theorem popPswLoadsAccumulatorAndFlags : Obligations.PopPswLoadsAccumulatorAndFlags := fun s =>
  ⟨rfl, popsTo_pop fun high low => by rw [State.setStackPair, hi_cat, lo_cat, flagsOfByte]; rfl⟩

/-- Settles O14: two reads, and HL is written from both bytes. -/
theorem lhldLoadsHl : Obligations.LhldLoadsHl := by
  intro s adr
  have hexec : exec (.lhld adr) s = execLhld adr s := rfl
  rw [hexec, execLhld]
  refine ⟨by rw [← lo_eq_byte, ← hi_eq_byte]; rfl, fun low high hl hh => ?_, fun e hl => ?_, fun low e hl hh => ?_⟩
  · rw [hl, ok_bind, hh, ok_bind, State.setHl_cat, outcome_ok]
  · rw [hl, error_bind, outcome_error]
  · rw [hl, ok_bind, hh, error_bind, outcome_error]

/-- Settles O15: two writes, to cells that differ even where ADR + 1 wraps. -/
theorem shldStoresHl : Obligations.ShldStoresHl := by
  intro s adr
  have hexec : exec (.shld adr) s = outcome (s.write adr s.l >>= fun w => w.write (adr + 1) s.h >>= fun t => .ok (id t)) := by
    simp only [bind_ok_self]
    rfl
  exact ⟨by rw [← lo_eq_byte, ← hi_eq_byte]; rfl,
    stores2_of_writes id hexec (ne_add_one adr) (fun _ => rfl) (fun _ => rfl)⟩

/-- Settles O17: two reads, then two writes, the high cell first. -/
theorem xthlExchangesHlWithStack : Obligations.XthlExchangesHlWithStack := by
  intro s
  have stores := fun low high hl hh =>
    stores2_of_writes (u := { s with h := high, l := low }) (fun t => t.setHl (cat high low))
      (exec_xthl_of_reads (low := low) (high := high) hl hh) (ne_add_one s.sp).symm (fun _ => rfl)
      (fun _ => by rw [State.setHl_cat]; rfl)
  refine ⟨rfl, fun low high hl hh hsp hsp1 => ?_, fun e hl => ?_, fun low e hl hh => ?_, fun low high e hl hh => ?_,
    fun low high w e hl hh => ?_⟩
  · obtain ⟨runs, -, -⟩ := stores low high hl hh
    obtain ⟨t, hexec, hsame, hstored⟩ := runs hsp1 hsp
    exact ⟨t, hexec, hsame, stored2_swap (ne_add_one s.sp).symm hstored⟩
  · change execXthl s = _
    rw [execXthl, hl, error_bind, outcome_error]
  · change execXthl s = _
    rw [execXthl, hl, ok_bind, hh, error_bind, outcome_error]
  · obtain ⟨-, faultsHigh, -⟩ := stores low high hl hh
    exact faultsHigh e
  · obtain ⟨-, -, faultsLow⟩ := stores low high hl hh
    exact faultsLow w e

end Sys2Proof.Proofs
end

section
/-! SUPPORT. Sums, differences, comparisons, counting and decimal adjust in the spec's numbers: the reasoning rules behind the
remaining statements of 41_arithmetic_logic.md. -/

open Sys2Proof.Vocabulary

namespace Sys2Proof.Machine

/-! ## Addition and subtraction of bytes (R37, R38) -/

theorem bit_eq_toNat (b : Bool) : bit b = b.toNat := by cases b <;> rfl

theorem add8_eq (a v : Byte) (k : Bool) :
    add8 a v k = ⟨byte (a.toNat + v.toNat + k.toNat), decide (255 < a.toNat + v.toNat + k.toNat),
      decide (15 < a.toNat % 16 + v.toNat % 16 + k.toNat)⟩ := by
  rw [add8, bit_eq_toNat]; rfl

/-- The carry out of D3 of `a + ~v + 1 - k` is 1 when the low group needs no borrow (R38). -/
theorem subAc_eq_borrowAc (p : Params) (a v : Byte) (k : Bool) : subAc p a v k = borrowAc p a v k := by
  rw [subAc, borrowAc]
  cases p.subAc with
  | carryOut =>
    have := v.isLt
    have := k.toNat_lt
    simp only [subAcCarryOut, lowGroup, bit_eq_toNat, BitVec.toNat_not]
    exact decide_eq_decide.2 (by omega)
  | uninterpreted => rfl

/-- The difference modulo 256, and the borrow where it is below 0 (R31, R38). -/
theorem sub8_eq (p : Params) (a v : Byte) (k : Bool) :
    sub8 p a v k = ⟨differenceByte a v k.toNat, decide (a.toNat < v.toNat + k.toNat), borrowAc p a v k⟩ := by
  have := a.isLt
  have := v.isLt
  have := k.toNat_lt
  have difference : BitVec.ofInt 8 ((a.toNat : Int) - v.toNat - k.toNat) = differenceByte a v k.toNat := by
    apply BitVec.eq_of_toNat_eq
    simp only [differenceByte, byte, BitVec.toNat_ofInt, BitVec.toNat_ofNat]
    omega
  have borrow : decide ((a.toNat : Int) - v.toNat - k.toNat < 0) = decide (a.toNat < v.toNat + k.toNat) :=
    decide_eq_decide.2 (by omega)
  rw [sub8, bit_eq_toNat, subAc_eq_borrowAc, difference, borrow]

theorem differenceByte_eq_zero_iff (a v : Byte) : differenceByte a v 0 = 0 ↔ a = v := by
  have := a.isLt
  have := v.isLt
  rw [← BitVec.toNat_inj, ← BitVec.toNat_inj, differenceByte, byte, BitVec.toNat_ofNat]
  simp only [BitVec.ofNat_eq_ofNat, BitVec.toNat_ofNat]
  omega

/-! ## The operations on A (R150 to R171) -/

theorem State.setResult_eq (s : State) (x : AluResult) :
    s.setResult x = { s with a := x.r, f := resultFlags x.r x.c x.ac } := by
  rw [State.setResult, AluResult.flags_eq]

theorem addByte_eq (v : Byte) (s : State) : addByte v s = sumState s v 0 := by
  rw [addByte, add8_eq, State.setResult_eq]; rfl

theorem adcByte_eq (v : Byte) (s : State) : adcByte v s = sumState s v s.f.c.toNat := by
  rw [adcByte, add8_eq, State.setResult_eq]; rfl

theorem subByte_eq (v : Byte) (s : State) : subByte v s = differenceState s v false := by
  rw [subByte, sub8_eq, State.setResult_eq]; rfl

theorem sbbByte_eq (v : Byte) (s : State) : sbbByte v s = differenceState s v s.f.c := by
  rw [sbbByte, sub8_eq, State.setResult_eq]; rfl

/-- The value that AC_LOGIC = i8080 gives to ac (R167). -/
def i8080Ac (op : LogicOp) (a v : Byte) : Bool :=
  match op with
  | .and => decide ((a ||| v).toNat / 8 % 2 = 1)
  | .xor => false

theorem State.acLogic_of_i8080 {s : State} (h : s.params.acLogic = .i8080) (op : LogicOp) (a v : Byte) :
    s.acLogic op a v = (i8080Ac op a v, s) := by
  have digit : (a ||| v).getLsbD 3 = decide ((a ||| v).toNat / 8 % 2 = 1) := Nat.testBit_eq_decide_div_mod_eq
  cases op with
  | and => simp only [State.acLogic, h, i8080Ac, digit]
  | xor => simp only [State.acLogic, h, i8080Ac]

/-- AND and exclusive OR with the three choices of AC_LOGIC (R161, R165, R167). -/
theorem next_setLogic {o : Out} {s : State} {op : LogicOp} {v r : Byte} (ho : o = .next (s.setLogic op v r)) :
    ∃ ac n, o = .next { s with a := r, f := resultFlags r false ac, draws := n } ∧
      (s.params.acLogic = .draw → n = s.draws + 1) ∧
      (s.params.acLogic = .unchanged → ac = s.f.ac ∧ n = s.draws) ∧
      (s.params.acLogic = .i8080 → ac = i8080Ac op s.a v ∧ n = s.draws) := by
  subst ho
  cases hlogic : s.params.acLogic with
  | draw =>
    have drawn : s.acLogic op s.a v = s.drawBit := by simp only [State.acLogic, hlogic]
    refine ⟨Config.drawBit s.draws, s.draws + 1, ?_, fun _ => rfl, nofun, nofun⟩
    rw [State.setLogic, drawn]
    exact congrArg _ (State.setResult_eq _ _)
  | unchanged =>
    have kept : s.acLogic op s.a v = (s.f.ac, s) := by simp only [State.acLogic, hlogic]
    refine ⟨s.f.ac, s.draws, ?_, nofun, fun _ => ⟨rfl, rfl⟩, nofun⟩
    rw [State.setLogic, kept]
    exact congrArg _ (State.setResult_eq _ _)
  | i8080 =>
    refine ⟨i8080Ac op s.a v, s.draws, ?_, nofun, nofun, fun _ => ⟨rfl, rfl⟩⟩
    rw [State.setLogic, State.acLogic_of_i8080 hlogic]
    exact congrArg _ (State.setResult_eq _ _)

theorem cmpByte_of_all {s : State} (h : s.params.cmpFlags = .all) (v : Byte) :
    cmpByte v s = { s with f := differenceFlags s.params s.a v false } := by
  rw [cmpByte, State.setCompare, h]
  simp only [AluResult.flags_eq, sub8_eq]
  rfl

theorem cmpByte_of_zcOnly {s : State} (h : s.params.cmpFlags = .zcOnly) (v : Byte) : ∃ sign parity ac,
    cmpByte v s = { s with
      f := { z := decide (s.a = v), s := sign, p := parity, ac := ac, c := decide (s.a.toNat < v.toNat) }
      draws := s.draws + 3 } := by
  have zero : (differenceByte s.a v 0 == 0) = decide (s.a = v) := decide_eq_decide.2 (differenceByte_eq_zero_iff s.a v)
  refine ⟨Config.drawBit s.draws, Config.drawBit (s.draws + 1), Config.drawBit (s.draws + 2), ?_⟩
  rw [cmpByte, State.setCompare, h]
  simp only [sub8_eq, ← zero]
  rfl

/-- A comparison says equal in z and less in c, whatever CMP_FLAGS is (R170). -/
theorem cmpByte_orders (v : Byte) (s : State) :
    ((cmpByte v s).f.z = true ↔ s.a.toNat = v.toNat) ∧ ((cmpByte v s).f.c = true ↔ s.a.toNat < v.toNat) := by
  obtain ⟨f, n, hstate, hz, hc⟩ := s.setCompare_frame (sub8 s.params s.a v false)
  rw [sub8_eq] at hz hc
  have hf : (cmpByte v s).f = f := by rw [cmpByte, hstate]
  rw [hf, hz, hc]
  refine ⟨?_, decide_eq_true_iff⟩
  rw [beq_iff_eq, BitVec.toNat_inj]
  exact differenceByte_eq_zero_iff s.a v

/-! ## Counting a byte (R172, R174) -/

theorem Flags.setZsp_eq (f : Flags) (r : Byte) (ac : Bool) : { f.setZsp r with ac := ac } = resultFlags r f.c ac := by
  rw [Flags.setZsp, resultFlags, parity8_eq, BitVec.msb_eq_decide]; rfl

theorem State.setCounted_reg (s : State) (r : Reg) (x : AluResult) :
    s.setCounted (.reg r) x = .ok { s.setReg r x.r with f := resultFlags x.r s.f.c x.ac } := by
  rw [State.setCounted, State.wr8_reg, ok_bind, Flags.setZsp_eq, State.setReg_f]; rfl

theorem State.setCounted_m (s : State) (x : AluResult) :
    s.setCounted .m x = s.write s.hl x.r >>= fun t => .ok (t.setFlags (resultFlags x.r t.f.c x.ac)) := by
  simp only [State.setCounted, State.wr8_m, Flags.setZsp_eq]

/-- An instruction that replaces an 8-bit operand by `count` of it and writes z, s, p and ac: on a register, on M, and with
the faults of M. -/
theorem counts_operand {s : State} {i : Operand8 → Instr} (count : Byte → AluResult)
    (hexec : ∀ x, exec (i x) s = outcome (s.rd8 x >>= fun v => s.setCounted x (count v))) :
    (∀ r, exec (i (.reg r)) s = .next { s.setReg r (count (s.reg r)).r with
      f := resultFlags (count (s.reg r)).r s.f.c (count (s.reg r)).ac }) ∧
    (∀ v, s.read s.hl = .ok v → s.Writable s.hl → ∃ t, exec (i .m) s = .next t ∧
      SameButMem t { s with f := resultFlags (count v).r s.f.c (count v).ac } ∧ Stored1 s t s.hl (count v).r) ∧
    (∀ e, s.read s.hl = .error e → exec (i .m) s = .fault e) ∧
    (∀ v e, s.read s.hl = .ok v → s.write s.hl (count v).r = .error e → exec (i .m) s = .fault e) := by
  refine ⟨fun r => ?_, fun v hread hram => ?_, fun e hread => ?_, fun v e hread hwrite => ?_⟩
  · rw [hexec, State.rd8_reg, ok_bind, State.setCounted_reg, outcome_ok]
  · refine ⟨(s.setMem (s.mem.write s.hl.toNat (count v).r)).setFlags (resultFlags (count v).r s.f.c (count v).ac), ?_, rfl,
      fun y => State.read_setMem_write hram y (count v).r⟩
    rw [hexec, State.rd8_m, hread, ok_bind, State.setCounted_m, State.write_ram hram, ok_bind, outcome_ok, State.setMem_f]
  · rw [hexec, State.rd8_m, hread, error_bind, outcome_error]
  · rw [hexec, State.rd8_m, hread, ok_bind, State.setCounted_m, hwrite, error_bind, outcome_error]

theorem add8_one_ac (v : Byte) : (add8 v 1 false).ac = decide (v.toNat % 16 = 15) := by
  rw [add8_eq]
  refine decide_eq_decide.2 ?_
  change 15 < v.toNat % 16 + 1 + 0 ↔ _
  omega

theorem sub8_one_r (p : Params) (v : Byte) : (sub8 p v 1 false).r = byte (v.toNat + 255) := by
  rw [sub8_eq]
  apply BitVec.eq_of_toNat_eq
  simp only [differenceByte, byte, BitVec.toNat_ofNat]
  change (512 + v.toNat - 1 - 0) % 256 = _
  omega

/-! ## Counting a pair (R173, R175) -/

theorem add_one_eq_ofNat (v : Word) : v + 1 = BitVec.ofNat 16 (v.toNat + 1) := by bv_omega

theorem sub_one_eq_ofNat (v : Word) : v - 1 = BitVec.ofNat 16 (v.toNat + 65535) := by bv_omega

theorem State.setBc_ofNat (s : State) (n : Nat) :
    s.setBc (BitVec.ofNat 16 n) = { s with b := byte (n / 256), c := byte n } := by
  rw [State.setBc, hi_ofNat, lo_ofNat]

theorem State.setDe_ofNat (s : State) (n : Nat) :
    s.setDe (BitVec.ofNat 16 n) = { s with d := byte (n / 256), e := byte n } := by
  rw [State.setDe, hi_ofNat, lo_ofNat]

/-- An instruction that adds `n` to a pair modulo 2^16, pair by pair. -/
theorem counts_pair {s : State} {i : Pair → Instr} (n : Nat)
    (hexec : ∀ r, exec (i r) s = .next (s.setPair r (BitVec.ofNat 16 ((s.pair r).toNat + n)))) :
    (let m := 256 * s.b.toNat + s.c.toNat + n
     exec (i .b) s = .next { s with b := byte (m / 256), c := byte m }) ∧
    (let m := 256 * s.d.toNat + s.e.toNat + n
     exec (i .d) s = .next { s with d := byte (m / 256), e := byte m }) ∧
    (let m := 256 * s.h.toNat + s.l.toNat + n
     exec (i .h) s = .next { s with h := byte (m / 256), l := byte m }) ∧
    exec (i .sp) s = .next { s with sp := BitVec.ofNat 16 (s.sp.toNat + n) } := by
  refine ⟨?_, ?_, ?_, hexec .sp⟩
  · rw [hexec, State.setPair, State.setBc_ofNat, State.pair, State.bc, cat_toNat]
  · rw [hexec, State.setPair, State.setDe_ofNat, State.pair, State.de, cat_toNat]
  · rw [hexec, State.setPair, State.setHl_ofNat, State.pair, State.hl, cat_toNat]

/-! ## Decimal adjust (R156) -/

/-- What decimal adjust adds for the low group. -/
def daaLow (a : Byte) (ac : Bool) : Nat := if 9 < a.toNat % 16 ∨ ac = true then 6 else 0

/-- What decimal adjust adds for the high group. -/
def daaHigh (a : Byte) (c : Bool) : Nat :=
  if 9 < a.toNat / 16 ∨ c = true ∨ (a.toNat / 16 = 9 ∧ 9 < a.toNat % 16) then 0x60 else 0

theorem daaAdjust_eq (a : Byte) (ac c : Bool) :
    daaAdjust a ac c = ⟨byte (a.toNat + daaLow a ac + daaHigh a c), decide (daaHigh a c ≠ 0) || c,
      decide (15 < a.toNat % 16 + daaLow a ac)⟩ := by
  have low : (if (decide (9 < a.toNat % 16) || ac) = true then 0x06 else 0x00) = daaLow a ac :=
    if_congr (by simp) rfl rfl
  have highFix : (decide (9 < a.toNat / 16) || c || (decide (a.toNat / 16 = 9) && decide (9 < a.toNat % 16))) =
      decide (daaHigh a c ≠ 0) := Bool.eq_iff_iff.2 (by simp [daaHigh, or_assoc])
  have high : (if decide (daaHigh a c ≠ 0) = true then 0x60 else 0x00) = daaHigh a c := by
    unfold daaHigh
    split <;> rfl
  have group : (daaLow a ac + daaHigh a c) % 16 = daaLow a ac := by
    unfold daaLow daaHigh
    split <;> split <;> rfl
  simp only [daaAdjust, low, highFix, high, group, byte, Nat.add_assoc]

/-- The digits of a sum of two packed decimals after the corrections of its two groups. -/
theorem adjusted_digits {a0 a1 v0 v1 k low high : Nat} (ha0 : a0 < 10) (ha1 : a1 < 10) (hv0 : v0 < 10) (hv1 : v1 < 10)
    (hk : k ≤ 1) (hlow : (low = 6 ∧ 10 ≤ a0 + v0 + k) ∨ (low = 0 ∧ a0 + v0 + k < 10))
    (hhigh : (high = 0x60 ∧ 100 ≤ 10 * (a1 + v1) + (a0 + v0 + k)) ∨
      (high = 0 ∧ 10 * (a1 + v1) + (a0 + v0 + k) < 100)) :
    ((16 * (a1 + v1) + (a0 + v0 + k)) % 256 + low + high) % 256 =
      16 * ((10 * (a1 + v1) + (a0 + v0 + k)) / 10 % 10) + (10 * (a1 + v1) + (a0 + v0 + k)) % 10 := by
  omega

section DecimalSum

variable {a v : Byte} (k : Nat) (ha : Packed a) (hv : Packed v) (hk : k ≤ 1)
include ha hv hk

/-- The low group of a sum of packed decimals takes 6 when its digits come to 10 or more, be it that they carry out of D3. -/
theorem daaLow_of_sum :
    let low := daaLow (byte (a.toNat + v.toNat + k)) (decide (15 < a.toNat % 16 + v.toNat % 16 + k))
    (low = 6 ∧ 10 ≤ a.toNat % 16 + v.toNat % 16 + k) ∨ (low = 0 ∧ a.toNat % 16 + v.toNat % 16 + k < 10) := by
  obtain ⟨ha0, -⟩ := ha
  obtain ⟨hv0, -⟩ := hv
  simp only [daaLow, byte, BitVec.toNat_ofNat, decide_eq_true_eq]
  split <;> omega

/-- The high group of a sum of packed decimals takes 60h when the decimal sum is 100 or more. -/
theorem daaHigh_of_sum :
    let high := daaHigh (byte (a.toNat + v.toNat + k)) (decide (255 < a.toNat + v.toNat + k))
    (high = 0x60 ∧ 100 ≤ decimal a + decimal v + k) ∨ (high = 0 ∧ decimal a + decimal v + k < 100) := by
  obtain ⟨ha0, ha1⟩ := ha
  obtain ⟨hv0, hv1⟩ := hv
  simp only [daaHigh, byte, decimal, BitVec.toNat_ofNat, decide_eq_true_eq]
  split <;> omega

/-- What decimal adjust makes of a byte sum of packed decimals: the two low digits of the decimal sum. -/
theorem daaAdjust_r_of_sum :
    (daaAdjust (byte (a.toNat + v.toNat + k)) (decide (15 < a.toNat % 16 + v.toNat % 16 + k))
      (decide (255 < a.toNat + v.toNat + k))).r.toNat =
      16 * ((decimal a + decimal v + k) / 10 % 10) + (decimal a + decimal v + k) % 10 := by
  have hlow := daaLow_of_sum k ha hv hk
  have hhigh := daaHigh_of_sum k ha hv hk
  obtain ⟨ha0, ha1⟩ := ha
  obtain ⟨hv0, hv1⟩ := hv
  have bytes : a.toNat + v.toNat + k = 16 * (a.toNat / 16 + v.toNat / 16) + (a.toNat % 16 + v.toNat % 16 + k) := by omega
  have decimals : decimal a + decimal v + k = 10 * (a.toNat / 16 + v.toNat / 16) + (a.toNat % 16 + v.toNat % 16 + k) := by
    unfold decimal; omega
  have adjusted := adjusted_digits ha0 ha1 hv0 hv1 hk hlow (decimals ▸ hhigh)
  rw [← bytes, ← decimals] at adjusted
  simpa only [daaAdjust_eq, byte, BitVec.toNat_ofNat] using adjusted

/-- The carry that decimal adjust makes of a byte sum of packed decimals: the hundreds digit of the decimal sum. -/
theorem daaAdjust_c_of_sum :
    (daaAdjust (byte (a.toNat + v.toNat + k)) (decide (15 < a.toNat % 16 + v.toNat % 16 + k))
      (decide (255 < a.toNat + v.toNat + k))).c = decide (100 ≤ decimal a + decimal v + k) := by
  have hhigh := daaHigh_of_sum k ha hv hk
  obtain ⟨-, ha1⟩ := ha
  obtain ⟨-, hv1⟩ := hv
  simp only [daaAdjust_eq, ← Bool.decide_or]
  refine decide_eq_decide.2 ?_
  generalize daaHigh _ _ = high at hhigh ⊢
  unfold decimal at hhigh ⊢
  omega

/-- The law of R156: the decimal sum, again packed, and its hundreds digit. -/
theorem daaAdjust_of_sum :
    let x := daaAdjust (byte (a.toNat + v.toNat + k)) (decide (15 < a.toNat % 16 + v.toNat % 16 + k))
      (decide (255 < a.toNat + v.toNat + k))
    Packed x.r ∧ decimal x.r = (decimal a + decimal v + k) % 100 ∧ x.c = decide (100 ≤ decimal a + decimal v + k) := by
  intro x
  have digits : x.r.toNat = _ := daaAdjust_r_of_sum k ha hv hk
  refine ⟨⟨?_, ?_⟩, ?_, daaAdjust_c_of_sum k ha hv hk⟩
  · rw [digits]; omega
  · rw [digits]; omega
  · rw [decimal, digits]; omega

end DecimalSum

/-- The state after DAA with the function of R156. -/
theorem exec_daa_of_adjust {s : State} (h : s.params.daaFn = .adjust) :
    exec .daa s = .next (s.setResult (daaAdjust s.a s.f.ac s.f.c)) := by
  change execDaa s = _
  rw [execDaa, daaFn, h]

theorem exec_daa_of_uninterpreted {s : State} (h : s.params.daaFn = .uninterpreted) :
    exec .daa s = .next (s.setResult ⟨(Config.daaFn s.a s.f.ac s.f.c).1, (Config.daaFn s.a s.f.ac s.f.c).2.1,
      (Config.daaFn s.a s.f.ac s.f.c).2.2⟩) := by
  change execDaa s = _
  rw [execDaa, daaFn, h]

end Sys2Proof.Machine
end

section
/-! SUPPORT. The remaining statements of 41_arithmetic_logic.md settled. -/

namespace Sys2Proof.Proofs

open Sys2Proof.Machine Sys2Proof.Vocabulary

/-- Settles O18: the four instructions are two operations on A and the operand's value. -/
theorem additionsWriteSumAndFlags : Obligations.AdditionsWriteSumAndFlags := by
  intro s x v
  obtain ⟨addRuns, addFaults⟩ := takes_operand (exec_alu s .add x)
  obtain ⟨adcRuns, adcFaults⟩ := takes_operand (exec_alu s .adc x)
  rw [← addByte_eq, ← adcByte_eq]
  exact ⟨encode_alu .add x, encode_alu .adc x, rfl, rfl, exec_aluImm s .add v, exec_aluImm s .adc v,
    fun hread => ⟨addRuns v hread, adcRuns v hread⟩, fun e hread => ⟨addFaults e hread, adcFaults e hread⟩⟩

/-- Settles O19, as O18. -/
theorem subtractionsWriteDifferenceAndFlags : Obligations.SubtractionsWriteDifferenceAndFlags := by
  intro s x v
  obtain ⟨subRuns, subFaults⟩ := takes_operand (exec_alu s .sub x)
  obtain ⟨sbbRuns, sbbFaults⟩ := takes_operand (exec_alu s .sbb x)
  rw [← subByte_eq, ← sbbByte_eq]
  exact ⟨encode_alu .sub x, encode_alu .sbb x, rfl, rfl, exec_aluImm s .sub v, exec_aluImm s .sbb v,
    fun hread => ⟨subRuns v hread, sbbRuns v hread⟩, fun e hread => ⟨subFaults e hread, sbbFaults e hread⟩⟩

/-- Settles O20: the four instructions end in one update, whose ac follows the parameter. -/
theorem andXorWriteResultAndFlags : Obligations.AndXorWriteResultAndFlags := by
  intro s x v
  obtain ⟨anaRuns, anaFaults⟩ := takes_operand (exec_alu s .ana x)
  obtain ⟨xraRuns, xraFaults⟩ := takes_operand (exec_alu s .xra x)
  refine ⟨encode_alu .ana x, encode_alu .xra x, rfl, rfl, fun e hread => ⟨anaFaults e hread, xraFaults e hread⟩, ?_⟩
  refine List.forall_mem_cons.2 ⟨fun _ => ?ani, List.forall_mem_cons.2 ⟨fun _ => ?xri,
    List.forall_mem_cons.2 ⟨fun hread => ?ana, List.forall_mem_singleton.2 fun hread => ?xra⟩⟩⟩
  case ani => exact next_setLogic (op := .and) (v := v) (exec_aluImm s .ana v)
  case xri => exact next_setLogic (op := .xor) (v := v) (exec_aluImm s .xra v)
  case ana => exact next_setLogic (op := .and) (v := v) (anaRuns v hread)
  case xra => exact next_setLogic (op := .xor) (v := v) (xraRuns v hread)

/-- Settles O22: both forms are one comparison, and CMP_FLAGS says which flags are free. -/
theorem compareWritesFlagsOnly : Obligations.CompareWritesFlagsOnly := by
  intro s x v
  obtain ⟨runs, faults⟩ := takes_operand (exec_alu s .cmp x)
  have compares : ∀ {o : Out}, o = .next (cmpByte v s) →
      (s.params.cmpFlags = .all → o = .next { s with f := differenceFlags s.params s.a v false }) ∧
      (s.params.cmpFlags = .zcOnly → ∃ sign parity ac, o = .next { s with
        f := { z := decide (s.a = v), s := sign, p := parity, ac := ac, c := decide (s.a.toNat < v.toNat) }
        draws := s.draws + 3 }) := by
    rintro _ rfl
    refine ⟨fun hall => by rw [cmpByte_of_all hall], fun hzc => ?_⟩
    obtain ⟨sign, parity, ac, h⟩ := cmpByte_of_zcOnly hzc v
    exact ⟨sign, parity, ac, by rw [h]⟩
  refine ⟨encode_alu .cmp x, rfl, faults, List.forall_mem_cons.2 ⟨fun _ => ?cpi, List.forall_mem_singleton.2 fun hread => ?cmp⟩⟩
  case cpi => exact compares (exec_aluImm s .cmp v)
  case cmp => exact compares (runs v hread)

/-- Settles O23: z says equal and c says less, and numbers are equal, less or greater. -/
theorem compareOrdersUnsigned : Obligations.CompareOrdersUnsigned := by
  intro s x v
  obtain ⟨runs, -⟩ := takes_operand (exec_alu s .cmp x)
  have orders : ∀ {o : Out}, o = .next (cmpByte v s) → ∃ t, o = .next t ∧
      (t.f.z = true ↔ s.a.toNat = v.toNat) ∧ (t.f.c = true ↔ s.a.toNat < v.toNat) ∧
      (t.f.c = false ∧ t.f.z = false ↔ v.toNat < s.a.toNat) ∧ ¬(t.f.c = true ∧ t.f.z = true) := by
    rintro _ rfl
    obtain ⟨equal, less⟩ := cmpByte_orders v s
    refine ⟨_, rfl, equal, less, ?_, ?_⟩
    · rw [← Bool.not_eq_true, ← Bool.not_eq_true, equal, less]; omega
    · rw [equal, less]; omega
  refine List.forall_mem_cons.2 ⟨fun _ => ?cpi, List.forall_mem_singleton.2 fun hread => ?cmp⟩
  case cpi => exact orders (exec_aluImm s .cmp v)
  case cmp => exact orders (runs v hread)

/-- Settles O24: INR replaces the operand by its sum with 1. -/
theorem inrCountsUp : Obligations.InrCountsUp := by
  intro s
  have counted := counts_operand (fun v => add8 v 1 false) (exec_inr s)
  simp only [add8_one_ac] at counted
  exact ⟨encode_inr, counted⟩

/-- Settles O25: DCR replaces the operand by its difference with 1. -/
theorem dcrCountsDown : Obligations.DcrCountsDown := by
  intro s
  have counted := counts_operand (fun v => sub8 s.params v 1 false) (exec_dcr s)
  have ac : ∀ v, (sub8 s.params v 1 false).ac = borrowAc s.params v 1 false := fun v => by rw [sub8_eq]
  simp only [sub8_one_r, ac] at counted
  exact ⟨encode_dcr, counted⟩

/-- Settles O26: counting down by one is counting up by 65535. -/
theorem inxDcxCountPairs : Obligations.InxDcxCountPairs := by
  intro s
  refine ⟨fun r => ⟨by cases r <;> rfl, by cases r <;> rfl⟩,
    List.forall_mem_cons.2 ⟨counts_pair 1 fun r => ?inx, List.forall_mem_singleton.2 (counts_pair 65535 fun r => ?dcx)⟩⟩
  case inx => rw [exec_inx, incrementPair, add_one_eq_ofNat]
  case dcx => rw [exec_dcx, decrementPair, sub_one_eq_ofNat]

/-- Settles O28: both functions end in the update of A and all five flags. -/
theorem daaAdjusts : Obligations.DaaAdjusts := by
  intro s
  refine ⟨rfl, fun hadjust => ?_, fun hfree => ?_⟩
  · rw [exec_daa_of_adjust hadjust, daaAdjust_eq, State.setResult_eq]; rfl
  · rw [exec_daa_of_uninterpreted hfree, State.setResult_eq]

/-- Settles O29: the addition leaves the byte sum and its two carries, from which decimal adjust makes the decimal sum. -/
theorem daaCorrectsDecimalSum : Obligations.DaaCorrectsDecimalSum := by
  intro s x v hadjust ha hv hread
  obtain ⟨addRuns, -⟩ := takes_operand (exec_alu s .add x)
  obtain ⟨adcRuns, -⟩ := takes_operand (exec_alu s .adc x)
  have adjusted : ∀ {o : Out} (k : Nat), k ≤ 1 → o = .next (sumState s v k) →
      ∃ t u, o = .next t ∧ exec .daa t = .next u ∧ Packed u.a ∧
        decimal u.a = (decimal s.a + decimal v + k) % 100 ∧ u.f.c = decide (100 ≤ decimal s.a + decimal v + k) := by
    rintro _ k hk rfl
    exact ⟨_, _, rfl, exec_daa_of_adjust hadjust, daaAdjust_of_sum k ha hv hk⟩
  refine List.forall_mem_cons.2 ⟨?add, List.forall_mem_singleton.2 ?adc⟩
  case add => exact adjusted 0 (Nat.zero_le 1) (by rw [addRuns v hread, ← addByte_eq]; rfl)
  case adc => exact adjusted s.f.c.toNat (Bool.toNat_le s.f.c) (by rw [adcRuns v hread, ← adcByte_eq]; rfl)

end Sys2Proof.Proofs
end

section
/-! SUPPORT. The rotates as arithmetic on A, and A moved left and right again: the reasoning rules behind the statements of
42_rotate_special.md. -/

open Sys2Proof.Vocabulary

namespace Sys2Proof.Machine

/-! ## The bit that moves out (R190 to R193) -/

theorem msb_toNat (v : Byte) : v.msb.toNat = v.toNat / 128 := by
  rw [BitVec.msb_eq_decide]
  have := v.isLt
  by_cases h : 2 ^ (8 - 1) ≤ v.toNat
  · rw [decide_eq_true h, Bool.toNat_true]; omega
  · rw [decide_eq_false h, Bool.toNat_false]; omega

theorem getLsbD_zero_toNat (v : Byte) : (v.getLsbD 0).toNat = v.toNat % 2 := by
  rw [BitVec.getLsbD, Nat.testBit_zero]
  rcases Nat.mod_two_eq_zero_or_one v.toNat with h | h <;> rw [h] <;> rfl

theorem decide_toNat_eq_one (b : Bool) : decide (b.toNat = 1) = b := by cases b <;> rfl

/-! ## A byte moved by one bit -/

/-- The low seven bits move up and `b` comes in at D0. -/
theorem append_low_eq_byte (v : Byte) (b : Bool) :
    v.extractLsb' 0 7 ++ BitVec.ofBool b = byte (2 * v.toNat % 256 + b.toNat) := by
  apply BitVec.eq_of_toNat_eq
  have := b.toNat_lt
  rw [BitVec.toNat_append, ← Nat.shiftLeft_add_eq_or_of_lt (BitVec.ofBool b).isLt]
  simp only [BitVec.extractLsb'_toNat, Nat.shiftRight_zero, BitVec.toNat_ofBool, Nat.shiftLeft_eq, byte,
    BitVec.toNat_ofNat]
  omega

/-- The high seven bits move down and `b` comes in at D7. -/
theorem append_high_eq_byte (v : Byte) (b : Bool) :
    BitVec.ofBool b ++ v.extractLsb' 1 7 = byte (v.toNat / 2 + 128 * b.toNat) := by
  apply BitVec.eq_of_toNat_eq
  have := v.isLt
  have := b.toNat_lt
  rw [BitVec.toNat_append, ← Nat.shiftLeft_add_eq_or_of_lt (v.extractLsb' 1 7).isLt]
  simp only [BitVec.toNat_ofBool, Nat.shiftLeft_eq, BitVec.extractLsb'_toNat, Nat.shiftRight_eq_div_pow, byte,
    BitVec.toNat_ofNat]
  omega

theorem extract_high_append_low (v : Byte) (b : Bool) :
    (v.extractLsb' 0 7 ++ BitVec.ofBool b).extractLsb' 1 7 = v.extractLsb' 0 7 := by
  apply BitVec.eq_of_toNat_eq
  have := b.toNat_lt
  rw [append_low_eq_byte]
  simp only [BitVec.extractLsb'_toNat, Nat.shiftRight_eq_div_pow, byte, BitVec.toNat_ofNat]
  omega

theorem getLsbD_zero_append_low (v : Byte) (b : Bool) : (v.extractLsb' 0 7 ++ BitVec.ofBool b).getLsbD 0 = b := by
  have last : (v.extractLsb' 0 7 ++ BitVec.ofBool b).toNat % 2 = b.toNat := by
    have := b.toNat_lt
    rw [append_low_eq_byte, byte, BitVec.toNat_ofNat]
    omega
  rw [← decide_toNat_eq_one (BitVec.getLsbD _ 0), getLsbD_zero_toNat, last, decide_toNat_eq_one]

theorem ofBool_msb_append_low (v : Byte) : BitVec.ofBool v.msb ++ v.extractLsb' 0 7 = v := by
  apply BitVec.eq_of_toNat_eq
  have := v.isLt
  rw [BitVec.toNat_append, ← Nat.shiftLeft_add_eq_or_of_lt (v.extractLsb' 0 7).isLt, BitVec.toNat_ofBool, msb_toNat,
    BitVec.extractLsb'_toNat, Nat.shiftLeft_eq]
  omega

/-! ## The rotates as state updates -/

theorem exec_rlc (s : State) : exec .rlc s = .next (s.rotateTo (s.a.extractLsb' 0 7 ++ BitVec.ofBool s.a.msb) s.a.msb) := rfl

theorem exec_rrc (s : State) :
    exec .rrc s = .next (s.rotateTo (BitVec.ofBool (s.a.getLsbD 0) ++ s.a.extractLsb' 1 7) (s.a.getLsbD 0)) := rfl

theorem exec_ral (s : State) : exec .ral s = .next (s.rotateTo (s.a.extractLsb' 0 7 ++ BitVec.ofBool s.f.c) s.a.msb) := rfl

theorem exec_rar (s : State) :
    exec .rar s = .next (s.rotateTo (BitVec.ofBool s.f.c ++ s.a.extractLsb' 1 7) (s.a.getLsbD 0)) := rfl

theorem State.rotateTo_eq (s : State) (r : Byte) (b : Bool) :
    s.rotateTo r b = { s with a := r, f := { s.f with c := decide (b.toNat = 1) } } := by
  rw [decide_toNat_eq_one]; rfl

@[simp] theorem State.rotateTo_rotateTo (s : State) (r r' : Byte) (b b' : Bool) :
    (s.rotateTo r b).rotateTo r' b' = s.rotateTo r' b' := rfl

theorem State.rotateTo_self (s : State) : s.rotateTo s.a s.f.c = s := rfl

/-- The complement as a number (R194). -/
theorem not_eq_byte (v : Byte) : ~~~v = byte (255 - v.toNat) := by
  apply BitVec.eq_of_toNat_eq
  rw [BitVec.toNat_not, byte, BitVec.toNat_ofNat]
  omega

end Sys2Proof.Machine
end

section
/-! SUPPORT. The statements of 42_rotate_special.md settled. -/

namespace Sys2Proof.Proofs

open Sys2Proof.Machine Sys2Proof.Vocabulary

/-- Settles O30: the two halves that each rotate puts together have the numbers of the statement. -/
theorem rotatesMoveOneBit : Obligations.RotatesMoveOneBit := by
  intro s top bottom rotated
  refine ⟨rfl, rfl, rfl, rfl, ?_, ?_, ?_, ?_⟩
  · rw [exec_rlc, append_low_eq_byte, State.rotateTo_eq, msb_toNat]
  · rw [exec_rrc, append_high_eq_byte, State.rotateTo_eq, getLsbD_zero_toNat]
  · rw [exec_ral, append_low_eq_byte, State.rotateTo_eq, msb_toNat]
  · rw [exec_rar, append_high_eq_byte, State.rotateTo_eq, getLsbD_zero_toNat]

/-- Settles O31: the bit that came in at D0 goes out again, and D7 comes back. -/
theorem rightRotateUndoesLeft : Obligations.RightRotateUndoesLeft := by
  intro s
  refine ⟨⟨_, _, exec_rlc s, exec_rrc _, ?_⟩, ⟨_, exec_ral s, ?_⟩⟩
  · rw [State.rotateTo_a, State.rotateTo_a, getLsbD_zero_append_low, extract_high_append_low, ofBool_msb_append_low]
  · rw [exec_rar, State.rotateTo_a, State.rotateTo_rotateTo, getLsbD_zero_append_low, extract_high_append_low,
      State.rotateTo_f, ofBool_msb_append_low, State.rotateTo_self]

/-- Settles O32. -/
theorem cmaStcCmcComplementAndSet : Obligations.CmaStcCmcComplementAndSet := by
  intro s
  have complement : (!s.f.c) = decide (s.f.c = false) := by cases s.f.c <;> rfl
  refine ⟨rfl, rfl, rfl, ?cma, rfl, ?cmc⟩
  case cma => rw [← not_eq_byte]; rfl
  case cmc => rw [← complement]; rfl

end Sys2Proof.Proofs
end

section
/-! SUPPORT. Conditions, restarts and port reads: the reasoning rules behind the remaining statements of
43_control_transfer.md and 44_control_io.md. -/

open Sys2Proof.Vocabulary

namespace Sys2Proof.Machine

/-! ## The conditions (R95, R204) -/

theorem holds_iff_condTrue (f : Flags) (k : Cond) : f.holds k = true ↔ condTrue k f := by
  cases k <;> simp [Flags.holds, condTrue]

theorem holds_eq_false_of_not {f : Flags} {k : Cond} (h : ¬condTrue k f) : f.holds k = false :=
  Bool.eq_false_iff.2 fun hk => h ((holds_iff_condTrue f k).1 hk)

section Conditional

variable {s : State} {k : Cond}

theorem exec_jumpIf_taken (adr : Word) (h : condTrue k s.f) : exec (Instr.jumpIf k adr) s = .next (s.setPc adr) := by
  rw [exec_jumpIf, jumpIf, if_pos ((holds_iff_condTrue s.f k).2 h)]

theorem exec_jumpIf_not_taken (adr : Word) (h : ¬condTrue k s.f) : exec (Instr.jumpIf k adr) s = .next s := by
  rw [exec_jumpIf, jumpIf, holds_eq_false_of_not h, if_neg Bool.false_ne_true]

theorem exec_callIf_taken (adr : Word) (h : condTrue k s.f) :
    exec (Instr.callIf k adr) s = outcome (s.callTo adr) := by
  rw [exec_callIf, callIf, if_pos ((holds_iff_condTrue s.f k).2 h)]

theorem exec_callIf_not_taken (adr : Word) (h : ¬condTrue k s.f) : exec (Instr.callIf k adr) s = .next s := by
  rw [exec_callIf, callIf, holds_eq_false_of_not h, if_neg Bool.false_ne_true]

theorem exec_returnIf_taken (h : condTrue k s.f) : exec (Instr.returnIf k) s = outcome s.returnToCaller := by
  rw [exec_returnIf, returnIf, if_pos ((holds_iff_condTrue s.f k).2 h)]

theorem exec_returnIf_not_taken (h : ¬condTrue k s.f) : exec (Instr.returnIf k) s = .next s := by
  rw [exec_returnIf, returnIf, holds_eq_false_of_not h, if_neg Bool.false_ne_true]

end Conditional

/-! ## RST (R229) -/

/-- What RST N does apart from the push. -/
def State.enterByProgram (s : State) (n : BitVec 3) : State :=
  { s with pc := restartVector n, inte := if s.params.rstSwClearsInte = true then false else s.inte }

theorem restartByProgram_eq (n : BitVec 3) (s : State) :
    restartByProgram n s = outcome (s.push16 s.pc >>= fun t => .ok (t.enterByProgram n)) := by
  rw [restartByProgram, State.restart]
  cases hpush : s.push16 s.pc with
  | error e => rfl
  | ok t =>
    obtain ⟨-, -, rfl⟩ := State.push16_eq_ok.1 hpush
    cases hclears : s.params.rstSwClearsInte <;> simp [State.enterByProgram, State.setPc, State.setInte, hclears]

theorem pushes_restartByProgram (n : BitVec 3) (s : State) :
    Pushes (restartByProgram n s) s (byte (s.pc.toNat / 256)) (byte s.pc.toNat)
      { s with
        sp := s.sp - 2
        pc := BitVec.ofNat 16 (8 * n.toNat)
        inte := if s.params.rstSwClearsInte = true then false else s.inte } := by
  rw [← hi_eq_byte, ← lo_eq_byte, ← restartVector_eq]
  exact pushes_of_push16 s.pc (fun t => t.enterByProgram n) (restartByProgram_eq n s) (fun _ => rfl) fun _ => rfl

/-! ## IN (R72, R240) -/

theorem State.ioRead_of_scheduled {s : State} {v : Byte} {rest : List Byte} (h : s.inputs = v :: rest) (port : Byte) :
    s.ioRead port = (v, { s with inputs := rest, events := s.events ++ [.input port v] }) := by
  rw [State.ioRead, h]; rfl

theorem State.ioRead_of_unscheduled {s : State} (h : s.inputs = []) (port : Byte) :
    s.ioRead port = (Config.inputByte port s.draws,
      { s with draws := s.draws + 1, events := s.events ++ [.input port (Config.inputByte port s.draws)] }) := by
  rw [State.ioRead, h]; rfl

theorem exec_inPort (s : State) (port : Byte) :
    exec (.inPort port) s = .next ((s.ioRead port).2.setReg .a (s.ioRead port).1) := rfl

end Sys2Proof.Machine
end

section
/-! SUPPORT. The remaining statements of 43_control_transfer.md, and those of 44_control_io.md, settled. -/

namespace Sys2Proof.Proofs

open Sys2Proof.Machine Sys2Proof.Vocabulary

/-- Settles O33. -/
theorem jumpsLoadPc : Obligations.JumpsLoadPc := by
  intro s k adr
  rw [← lo_eq_byte, ← hi_eq_byte]
  exact ⟨rfl, by cases k <;> rfl, rfl, exec_jumpIf_taken adr, exec_jumpIf_not_taken adr⟩

/-- Settles O36: a taken call is the shared call. -/
theorem conditionalCallsCallOrGoOn : Obligations.ConditionalCallsCallOrGoOn := by
  intro s k adr
  refine ⟨by rw [← lo_eq_byte, ← hi_eq_byte]; cases k <;> rfl, fun htrue => ?_, exec_callIf_not_taken adr⟩
  rw [PushesTo, exec_callIf_taken adr htrue]
  exact pushes_callTo_of_pc s adr

/-- Settles O37: a taken return is the shared return. -/
theorem conditionalReturnsReturnOrGoOn : Obligations.ConditionalReturnsReturnOrGoOn := fun _ k =>
  ⟨by cases k <;> rfl, fun htrue => popsTo_of_returnToCaller (exec_returnIf_taken htrue), exec_returnIf_not_taken⟩

/-- Settles O38: RST is a push of pc and then an update of pc and `inte`. -/
theorem rstRestartsAtArea : Obligations.RstRestartsAtArea := by
  intro s n
  have codes : ∀ n : BitVec 3, encode (Instr.rst n) = [byte (0xC7 + 8 * n.toNat)] := by decide
  refine ⟨codes n, ?_⟩
  rw [PushesTo, exec_rst]
  exact pushes_restartByProgram n s

/-- Settles O39: where CALL left SP stand the two bytes of pc, so RET pops pc and moves SP back. -/
theorem retUndoesCall : Obligations.RetUndoesCall := by
  intro s adr hhigh hlow
  obtain ⟨runs, -, -⟩ := pushes_callTo_of_pc s adr
  obtain ⟨t, hcall, hsame, hstored⟩ := runs hhigh hlow
  have hsp : t.sp = s.sp - 2 := congrArg State.sp hsame
  have hpc : t.pc = adr := congrArg State.pc hsame
  have next : s.sp - 2 + 1 = s.sp - 1 := by bv_omega
  have apart : s.sp - 2 ≠ s.sp - 1 := by bv_omega
  have readLow : t.read t.sp = .ok (lo s.pc) := by
    rw [hsp, hstored, if_neg apart, if_pos rfl, lo_eq_byte]
  have readHigh : t.read (t.sp + 1) = .ok (hi s.pc) := by
    rw [hsp, next, hstored, if_pos rfl, hi_eq_byte]
  refine ⟨t, _, hcall, hpc, by rw [exec_ret, State.returnToCaller_of_reads readLow readHigh, outcome_ok], ?_⟩
  have back : s.sp - 2 + 2 = s.sp := by bv_omega
  rw [SameButMem, cat_hi_lo, hsp, back]
  exact congrArg (fun u : State => { u with sp := s.sp, pc := s.pc }) hsame

/-- Settles O40: the byte is the schedule's next one, or a free one where the schedule is empty. -/
theorem inReadsPort : Obligations.InReadsPort := by
  intro s port
  refine ⟨rfl, fun v rest hinputs => ?_, fun hinputs => ⟨Config.inputByte port s.draws, ?_⟩⟩
  · rw [exec_inPort, State.ioRead_of_scheduled hinputs]; rfl
  · rw [exec_inPort, State.ioRead_of_unscheduled hinputs]; rfl

/-- Settles O41. -/
theorem outWritesPort : Obligations.OutWritesPort := fun _ _ => ⟨rfl, rfl⟩

/-- Settles O42. -/
theorem eiDiNopHltWriteControlState : Obligations.EiDiNopHltWriteControlState := fun _ =>
  ⟨rfl, rfl, rfl, rfl, rfl, rfl, rfl, rfl⟩

end Sys2Proof.Proofs
end
